-- ==== Sys2Proof/Word.lean ====
section
/-! DEFINITION. The widths of the machine (00_scope.md R8, R10): XLEN = PCLEN = ALEN = 16, 8-bit bytes,
4-bit register fields, 8-bit port numbers. -/

namespace Sys2Proof

/-- A register value, an address, the program counter or an instruction word: 16 bits (R8, R10). -/
abbrev Word := BitVec 16

/-- The smallest addressable unit, also a port number: 8 bits (R8). -/
abbrev Byte := BitVec 8

/-- A register field: the register's number, 0 to 15 (10_state.md R21). -/
abbrev RegNum := BitVec 4

/-- A 4-bit field of an instruction word: opcode, func, sub, cond or a register (R9, R14). -/
abbrev Nibble := BitVec 4

/-- Bits 7:0 of a word. -/
def Word.lowByte (w : Word) : Byte := w.extractLsb' 0 8

/-- Bits 15:8 of a word. -/
def Word.highByte (w : Word) : Byte := w.extractLsb' 8 8

/-- `hi ++ lo`: the word whose bits 15:8 are `hi` and bits 7:0 `lo` (R9). -/
def Word.ofBytes (hi lo : Byte) : Word := hi ++ lo

end Sys2Proof
end

