-- ==== Sys2Proof/Syntax.lean ====
section
/-! DEFINITION. The 109 instructions (00_scope.md R2), one constructor per row of spec/opcode_table.json, in the
table's order. Operands are the fields the instruction uses (30_encoding.md R113); unused fields (R103) are no
operands. -/

namespace Sys2Proof

/-- An instruction with its operands. Each constructor's comment gives the assembler shape and the rule. -/
inductive Instr where
  -- Opcodes 0x0 to 0x5 (40_alu.md)
  /-- `ADD Rd, Rs1, Rs2` (R123) -/
  | add (rd rs1 rs2 : RegNum)
  /-- `SUB Rd, Rs1, Rs2` (R124) -/
  | sub (rd rs1 rs2 : RegNum)
  /-- `AND Rd, Rs1, Rs2` (R125) -/
  | and (rd rs1 rs2 : RegNum)
  /-- `OR Rd, Rs1, Rs2` (R126) -/
  | or (rd rs1 rs2 : RegNum)
  /-- `XOR Rd, Rs1, Rs2` (R127) -/
  | xor (rd rs1 rs2 : RegNum)
  /-- `ADDI Rd, imm8` (R128) -/
  | addi (rd : RegNum) (imm8 : Byte)
  -- Opcode 0x6 (41_load_store.md)
  /-- `LW Rd, (Rs1)` (R142) -/
  | lw (rd rs1 : RegNum)
  /-- `LB Rd, (Rs1)` (R143) -/
  | lb (rd rs1 : RegNum)
  /-- `LBU Rd, (Rs1)` (R144) -/
  | lbu (rd rs1 : RegNum)
  /-- `LW Rd, 2(Rs1)` (R145) -/
  | lwP2 (rd rs1 : RegNum)
  /-- `LW Rd, 4(Rs1)` (R146) -/
  | lwP4 (rd rs1 : RegNum)
  /-- `LW Rd, 6(Rs1)` (R147) -/
  | lwP6 (rd rs1 : RegNum)
  /-- `LW Rd, -2(Rs1)` (R148) -/
  | lwM2 (rd rs1 : RegNum)
  /-- `LW Rd, -4(Rs1)` (R149) -/
  | lwM4 (rd rs1 : RegNum)
  /-- `LUI Rd, Rs1` (R150) -/
  | lui (rd rs1 : RegNum)
  -- Opcode 0x7 (41_load_store.md): `rs2` (bits 11:8) is the value, `rs1` (bits 7:4) the address base
  /-- `SW (Rs1), Rs2` (R152) -/
  | sw (rs2 rs1 : RegNum)
  /-- `SB (Rs1), Rs2` (R153) -/
  | sb (rs2 rs1 : RegNum)
  /-- `SW 2(Rs1), Rs2` (R154) -/
  | swP2 (rs2 rs1 : RegNum)
  /-- `SW 4(Rs1), Rs2` (R155) -/
  | swP4 (rs2 rs1 : RegNum)
  /-- `SW 6(Rs1), Rs2` (R156) -/
  | swP6 (rs2 rs1 : RegNum)
  /-- `SW -2(Rs1), Rs2` (R157) -/
  | swM2 (rs2 rs1 : RegNum)
  /-- `SW -4(Rs1), Rs2` (R158) -/
  | swM4 (rs2 rs1 : RegNum)
  -- Opcode 0x8 (42_branch_jump.md): offset8 counts words from pc + 2
  /-- `BEQ offset` (R172) -/
  | beq (offset8 : Byte)
  /-- `BNE offset` (R173) -/
  | bne (offset8 : Byte)
  /-- `BLT offset` (R174) -/
  | blt (offset8 : Byte)
  /-- `BGE offset` (R175) -/
  | bge (offset8 : Byte)
  /-- `BLTU offset` (R176) -/
  | bltu (offset8 : Byte)
  /-- `BGEU offset` (R177) -/
  | bgeu (offset8 : Byte)
  /-- `BMI offset` (R178) -/
  | bmi (offset8 : Byte)
  /-- `BPL offset` (R179) -/
  | bpl (offset8 : Byte)
  /-- `BVS offset` (R180) -/
  | bvs (offset8 : Byte)
  /-- `BVC offset` (R181) -/
  | bvc (offset8 : Byte)
  /-- `BCS offset` (R182) -/
  | bcs (offset8 : Byte)
  /-- `BCC offset` (R183) -/
  | bcc (offset8 : Byte)
  /-- `BGT offset` (R184) -/
  | bgt (offset8 : Byte)
  /-- `BLE offset` (R185) -/
  | ble (offset8 : Byte)
  /-- `BHI offset` (R186) -/
  | bhi (offset8 : Byte)
  /-- `BLS offset` (R187) -/
  | bls (offset8 : Byte)
  -- Opcode 0x9 (42_branch_jump.md; 30_encoding.md R101)
  /-- `JALR Rd, Rs1` (R190) -/
  | jalr (rd rs : RegNum)
  /-- `JR Rs1` (R189) -/
  | jr (rs : RegNum)
  /-- `J offset` (R188) -/
  | j (offset12 : BitVec 12)
  -- Opcode 0xA (43_shift.md): the amount is part of the instruction
  /-- `SLL Rd, Rs1, 1` (R202) -/
  | sll1 (rd rs1 : RegNum)
  /-- `SRL Rd, Rs1, 1` (R203) -/
  | srl1 (rd rs1 : RegNum)
  /-- `SRA Rd, Rs1, 1` (R204) -/
  | sra1 (rd rs1 : RegNum)
  /-- `ROL Rd, Rs1, 1` (R205) -/
  | rol1 (rd rs1 : RegNum)
  /-- `ROR Rd, Rs1, 1` (R208) -/
  | ror1 (rd rs1 : RegNum)
  /-- `RCL Rd, Rs1, 1` (R206) -/
  | rcl (rd rs1 : RegNum)
  /-- `RCR Rd, Rs1, 1` (R207) -/
  | rcr (rd rs1 : RegNum)
  /-- `SWAP Rd, Rs1` (R209) -/
  | swap (rd rs1 : RegNum)
  /-- `SLL Rd, Rs1, 4` (R210) -/
  | sll4 (rd rs1 : RegNum)
  /-- `SRL Rd, Rs1, 4` (R211) -/
  | srl4 (rd rs1 : RegNum)
  /-- `SRA Rd, Rs1, 4` (R212) -/
  | sra4 (rd rs1 : RegNum)
  /-- `ROL Rd, Rs1, 4` (R217) -/
  | rol4 (rd rs1 : RegNum)
  /-- `SLL Rd, Rs1, 8` (R213) -/
  | sll8 (rd rs1 : RegNum)
  /-- `SRL Rd, Rs1, 8` (R214) -/
  | srl8 (rd rs1 : RegNum)
  /-- `SRA Rd, Rs1, 8` (R215) -/
  | sra8 (rd rs1 : RegNum)
  /-- `ROL Rd, Rs1, 8` (R216) -/
  | rol8 (rd rs1 : RegNum)
  -- Opcode 0xB (44_muldiv.md): rd is first operand and destination
  /-- `MUL Rd, Rs1` (R232) -/
  | mul (rd rs1 : RegNum)
  /-- `MULH Rd, Rs1` (R233) -/
  | mulh (rd rs1 : RegNum)
  /-- `MULHU Rd, Rs1` (R234) -/
  | mulhu (rd rs1 : RegNum)
  /-- `DIV Rd, Rs1` (R235) -/
  | div (rd rs1 : RegNum)
  /-- `DIVU Rd, Rs1` (R236) -/
  | divu (rd rs1 : RegNum)
  /-- `REM Rd, Rs1` (R237) -/
  | rem (rd rs1 : RegNum)
  /-- `REMU Rd, Rs1` (R238) -/
  | remu (rd rs1 : RegNum)
  /-- `DAA Rd` (R239) -/
  | daa (rd : RegNum)
  -- Opcode 0xC (45_stack_misc.md)
  /-- `PUSH Rs1` (R250) -/
  | push (rs1 : RegNum)
  /-- `POP Rd` (R251) -/
  | pop (rd : RegNum)
  /-- `CMP Rd, Rs1` (R252) -/
  | cmp (rd rs1 : RegNum)
  /-- `TEST Rd, Rs1` (R253) -/
  | test (rd rs1 : RegNum)
  /-- `MOV Rd, Rs1` (R254) -/
  | mov (rd rs1 : RegNum)
  /-- `LDI` (R255) -/
  | ldi
  /-- `LDD` (R257) -/
  | ldd
  /-- `LDIR` (R258) -/
  | ldir
  /-- `LDDR` (R259) -/
  | lddr
  /-- `CPIR` (R260) -/
  | cpir
  /-- `FILL` (R262) -/
  | fill
  /-- `EXX` (R261) -/
  | exx
  /-- `GETF Rd` (R263) -/
  | getf (rd : RegNum)
  /-- `SETF Rs1` (R264) -/
  | setf (rs1 : RegNum)
  -- Opcode 0xD (46_io.md)
  /-- `INI Rd, port` (R282) -/
  | ini (rd : RegNum) (port : Nibble)
  /-- `OUTI port, Rd` (R283) -/
  | outi (rd : RegNum) (port : Nibble)
  /-- `IN Rd, (Rs1)` (R284) -/
  | inp (rd rs1 : RegNum)
  /-- `OUT (Rs1), Rd` (R285) -/
  | out (rd rs1 : RegNum)
  -- Opcode 0xE (47_system.md)
  /-- `NOP` (R290) -/
  | nop
  /-- `HALT` (R291) -/
  | halt
  /-- `DI` (R292) -/
  | di
  /-- `EI` (R293) -/
  | ei
  /-- `RETI` (R294) -/
  | reti
  /-- `SCF` (R296) -/
  | scf
  /-- `CCF` (R297) -/
  | ccf
  /-- `SEI` (R298) -/
  | sei
  /-- `CLI` (R299) -/
  | cli
  /-- `SWI imm8` (R295) -/
  | swi (imm8 : Byte)
  -- Opcode 0xF (48_extended.md): two words
  /-- `ADDIX Rd, Rs1, imm16` (R311) -/
  | addix (rd rs1 : RegNum) (imm16 : Word)
  /-- `SUBIX Rd, Rs1, imm16` (R312) -/
  | subix (rd rs1 : RegNum) (imm16 : Word)
  /-- `ANDIX Rd, Rs1, imm16` (R313) -/
  | andix (rd rs1 : RegNum) (imm16 : Word)
  /-- `ORIX Rd, Rs1, imm16` (R314) -/
  | orix (rd rs1 : RegNum) (imm16 : Word)
  /-- `XORIX Rd, Rs1, imm16` (R315) -/
  | xorix (rd rs1 : RegNum) (imm16 : Word)
  /-- `LWX Rd, imm16(Rs1)` (R316) -/
  | lwx (rd rs1 : RegNum) (imm16 : Word)
  /-- `SWX Rd, imm16(Rs1)` (R317) -/
  | swx (rd rs1 : RegNum) (imm16 : Word)
  /-- `LIX Rd, imm16` (R318) -/
  | lix (rd : RegNum) (imm16 : Word)
  /-- `JX addr16` (R319) -/
  | jx (addr16 : Word)
  /-- `JALX addr16` (R320) -/
  | jalx (addr16 : Word)
  /-- `CMPIX Rd, imm16` (R321) -/
  | cmpix (rd : RegNum) (imm16 : Word)
  /-- `INX Rd, port8` (R322) -/
  | inx (rd : RegNum) (port8 : Byte)
  /-- `OUTX port8, Rs1` (R323) -/
  | outx (rs1 : RegNum) (port8 : Byte)
  /-- `SLLX Rd, Rs1, imm4` (R324) -/
  | sllx (rd rs1 : RegNum) (imm4 : Nibble)
  /-- `SRLX Rd, Rs1, imm4` (R325) -/
  | srlx (rd rs1 : RegNum) (imm4 : Nibble)
  /-- `SRAX Rd, Rs1, imm4` (R326) -/
  | srax (rd rs1 : RegNum) (imm4 : Nibble)
deriving DecidableEq, Repr

end Sys2Proof
end

