-- ==== Sys2Proof/WellFormed.lean ====
section
/-! DEFINITION. Which instructions the encoding admits (30_encoding.md R102). Field widths are in the types, so the
one check is J's: an offset whose word would be a JALR or a JR pattern. -/

namespace Sys2Proof

/-- A J with this offset would have bits 3:0 = 0x1, the JALR pattern (30_encoding.md R101 step 1, R102). -/
def collidesWithJalr (offset12 : BitVec 12) : Bool := offset12.extractLsb' 0 4 == 0x1#4

/-- A J with this offset would have bits 11:8 = 0xF and bits 3:0 = 0x0, the JR pattern (R101 step 2, R102). -/
def collidesWithJr (offset12 : BitVec 12) : Bool :=
  offset12.extractLsb' 8 4 == 0xF#4 && offset12.extractLsb' 0 4 == 0x0#4

/-- The instruction has an encoding (R102). -/
def Instr.wellFormed : Instr → Bool
  | .add _ _ _ => true
  | .sub _ _ _ => true
  | .and _ _ _ => true
  | .or _ _ _ => true
  | .xor _ _ _ => true
  | .addi _ _ => true
  | .lw _ _ => true
  | .lb _ _ => true
  | .lbu _ _ => true
  | .lwP2 _ _ => true
  | .lwP4 _ _ => true
  | .lwP6 _ _ => true
  | .lwM2 _ _ => true
  | .lwM4 _ _ => true
  | .lui _ _ => true
  | .sw _ _ => true
  | .sb _ _ => true
  | .swP2 _ _ => true
  | .swP4 _ _ => true
  | .swP6 _ _ => true
  | .swM2 _ _ => true
  | .swM4 _ _ => true
  | .beq _ => true
  | .bne _ => true
  | .blt _ => true
  | .bge _ => true
  | .bltu _ => true
  | .bgeu _ => true
  | .bmi _ => true
  | .bpl _ => true
  | .bvs _ => true
  | .bvc _ => true
  | .bcs _ => true
  | .bcc _ => true
  | .bgt _ => true
  | .ble _ => true
  | .bhi _ => true
  | .bls _ => true
  | .jalr _ _ => true
  | .jr _ => true
  | .j offset12 => !collidesWithJalr offset12 && !collidesWithJr offset12
  | .sll1 _ _ => true
  | .srl1 _ _ => true
  | .sra1 _ _ => true
  | .rol1 _ _ => true
  | .ror1 _ _ => true
  | .rcl _ _ => true
  | .rcr _ _ => true
  | .swap _ _ => true
  | .sll4 _ _ => true
  | .srl4 _ _ => true
  | .sra4 _ _ => true
  | .rol4 _ _ => true
  | .sll8 _ _ => true
  | .srl8 _ _ => true
  | .sra8 _ _ => true
  | .rol8 _ _ => true
  | .mul _ _ => true
  | .mulh _ _ => true
  | .mulhu _ _ => true
  | .div _ _ => true
  | .divu _ _ => true
  | .rem _ _ => true
  | .remu _ _ => true
  | .daa _ => true
  | .push _ => true
  | .pop _ => true
  | .cmp _ _ => true
  | .test _ _ => true
  | .mov _ _ => true
  | .ldi => true
  | .ldd => true
  | .ldir => true
  | .lddr => true
  | .cpir => true
  | .fill => true
  | .exx => true
  | .getf _ => true
  | .setf _ => true
  | .ini _ _ => true
  | .outi _ _ => true
  | .inp _ _ => true
  | .out _ _ => true
  | .nop => true
  | .halt => true
  | .di => true
  | .ei => true
  | .reti => true
  | .scf => true
  | .ccf => true
  | .sei => true
  | .cli => true
  | .swi _ => true
  | .addix _ _ _ => true
  | .subix _ _ _ => true
  | .andix _ _ _ => true
  | .orix _ _ _ => true
  | .xorix _ _ _ => true
  | .lwx _ _ _ => true
  | .swx _ _ _ => true
  | .lix _ _ => true
  | .jx _ => true
  | .jalx _ => true
  | .cmpix _ _ => true
  | .inx _ _ => true
  | .outx _ _ => true
  | .sllx _ _ _ => true
  | .srlx _ _ _ => true
  | .srax _ _ _ => true

end Sys2Proof
end

