-- ==== Sys2Proof/Decode.lean ====
section
/-! DEFINITION. Decoding (30_encoding.md R100, R101, R104) and the canonical encoding (R82 to R91, R103), both
written from the same formats. The decoder is total; it rejects a reserved first word by name. -/

namespace Sys2Proof

/-- Bits 15:12 of the first word (R80). -/
def opcodeOf (w0 : Word) : Nibble := w0.extractLsb' 12 4

/-- Bits 11:8: Rd in most formats, Rs2 in ST, cond in B, func in SYS (R82 to R91). -/
def field3 (w0 : Word) : Nibble := w0.extractLsb' 8 4

/-- Bits 7:4: Rs1, or the port of format IO. -/
def field2 (w0 : Word) : Nibble := w0.extractLsb' 4 4

/-- Bits 3:0: Rs2 in R3, func or sub elsewhere. -/
def field1 (w0 : Word) : Nibble := w0.extractLsb' 0 4

/-- Bits 7:0: imm8, offset8 or the operand of SYS. -/
def imm8Of (w0 : Word) : Byte := w0.extractLsb' 0 8

/-- Bits 11:0: offset12 of J. -/
def offset12Of (w0 : Word) : BitVec 12 := w0.extractLsb' 0 12

/-- Why bytes are no instruction. -/
inductive DecodeError where
  /-- fewer bytes than the instruction has -/
  | truncated
  /-- a reserved first word (R104) -/
  | reserved (w0 : Word)
deriving DecidableEq, Repr

/-- The instruction has a second word: opcode 0xF and no other (R80, R107). -/
def isExtended (w0 : Word) : Bool := opcodeOf w0 == 0xF#4

/-- Opcode 0x6, format RF (R83, R97, R100): func 0x9 to 0xF reserved. -/
def decodeLoad (rd rs1 func : Nibble) : Option Instr :=
  match func.toNat with
  | 0x0 => some (.lw rd rs1)
  | 0x1 => some (.lb rd rs1)
  | 0x2 => some (.lbu rd rs1)
  | 0x3 => some (.lwP2 rd rs1)
  | 0x4 => some (.lwP4 rd rs1)
  | 0x5 => some (.lwP6 rd rs1)
  | 0x6 => some (.lwM2 rd rs1)
  | 0x7 => some (.lwM4 rd rs1)
  | 0x8 => some (.lui rd rs1)
  | _ => none

/-- Opcode 0x7, format ST (R84, R97, R100): func 0x7 to 0xF reserved. -/
def decodeStore (rs2 rs1 func : Nibble) : Option Instr :=
  match func.toNat with
  | 0x0 => some (.sw rs2 rs1)
  | 0x1 => some (.sb rs2 rs1)
  | 0x2 => some (.swP2 rs2 rs1)
  | 0x3 => some (.swP4 rs2 rs1)
  | 0x4 => some (.swP6 rs2 rs1)
  | 0x5 => some (.swM2 rs2 rs1)
  | 0x6 => some (.swM4 rs2 rs1)
  | _ => none

/-- Opcode 0x8, format B (R86; 42_branch_jump.md R170): all sixteen conditions. -/
def decodeBranch (cond : Nibble) (offset8 : Byte) : Option Instr :=
  match cond.toNat with
  | 0x0 => some (.beq offset8)
  | 0x1 => some (.bne offset8)
  | 0x2 => some (.blt offset8)
  | 0x3 => some (.bge offset8)
  | 0x4 => some (.bltu offset8)
  | 0x5 => some (.bgeu offset8)
  | 0x6 => some (.bmi offset8)
  | 0x7 => some (.bpl offset8)
  | 0x8 => some (.bvs offset8)
  | 0x9 => some (.bvc offset8)
  | 0xA => some (.bcs offset8)
  | 0xB => some (.bcc offset8)
  | 0xC => some (.bgt offset8)
  | 0xD => some (.ble offset8)
  | 0xE => some (.bhi offset8)
  | 0xF => some (.bls offset8)
  | _ => none

/-- Opcode 0x9 (R101): the JALR pattern first, then the JR pattern, then J. -/
def decodeJump (w0 : Word) : Instr :=
  if field1 w0 = 0x1#4 then .jalr (field3 w0) (field2 w0)
  else if field3 w0 = 0xF#4 ∧ field1 w0 = 0x0#4 then .jr (field2 w0)
  else .j (offset12Of w0)

/-- Opcode 0xA, format RF (43_shift.md R201 to R217): all sixteen functions. -/
def decodeShift (rd rs1 func : Nibble) : Option Instr :=
  match func.toNat with
  | 0x0 => some (.sll1 rd rs1)
  | 0x1 => some (.srl1 rd rs1)
  | 0x2 => some (.sra1 rd rs1)
  | 0x3 => some (.rol1 rd rs1)
  | 0x4 => some (.ror1 rd rs1)
  | 0x5 => some (.rcl rd rs1)
  | 0x6 => some (.rcr rd rs1)
  | 0x7 => some (.swap rd rs1)
  | 0x8 => some (.sll4 rd rs1)
  | 0x9 => some (.srl4 rd rs1)
  | 0xA => some (.sra4 rd rs1)
  | 0xB => some (.rol4 rd rs1)
  | 0xC => some (.sll8 rd rs1)
  | 0xD => some (.srl8 rd rs1)
  | 0xE => some (.sra8 rd rs1)
  | 0xF => some (.rol8 rd rs1)
  | _ => none

/-- Opcode 0xB, format RF (44_muldiv.md R232 to R240): func 0x8 to 0xF reserved. -/
def decodeMulDiv (rd rs1 func : Nibble) : Option Instr :=
  match func.toNat with
  | 0x0 => some (.mul rd rs1)
  | 0x1 => some (.mulh rd rs1)
  | 0x2 => some (.mulhu rd rs1)
  | 0x3 => some (.div rd rs1)
  | 0x4 => some (.divu rd rs1)
  | 0x5 => some (.rem rd rs1)
  | 0x6 => some (.remu rd rs1)
  | 0x7 => some (.daa rd)
  | _ => none

/-- Opcode 0xC, format RF (45_stack_misc.md R250 to R265): func 0xE and 0xF reserved. -/
def decodeMisc (rd rs1 func : Nibble) : Option Instr :=
  match func.toNat with
  | 0x0 => some (.push rs1)
  | 0x1 => some (.pop rd)
  | 0x2 => some (.cmp rd rs1)
  | 0x3 => some (.test rd rs1)
  | 0x4 => some (.mov rd rs1)
  | 0x5 => some .ldi
  | 0x6 => some .ldd
  | 0x7 => some .ldir
  | 0x8 => some .lddr
  | 0x9 => some .cpir
  | 0xA => some .fill
  | 0xB => some .exx
  | 0xC => some (.getf rd)
  | 0xD => some (.setf rs1)
  | _ => none

/-- Opcode 0xD, formats IO and RF (R89; 46_io.md R282 to R286): func 0x4 to 0xF reserved. -/
def decodeIo (rd rs1 func : Nibble) : Option Instr :=
  match func.toNat with
  | 0x0 => some (.ini rd rs1)
  | 0x1 => some (.outi rd rs1)
  | 0x2 => some (.inp rd rs1)
  | 0x3 => some (.out rd rs1)
  | _ => none

/-- Opcode 0xE, format SYS (R90; 47_system.md R290 to R300): func in bits 11:8, 0xA to 0xF reserved. -/
def decodeSystem (func : Nibble) (operand : Byte) : Option Instr :=
  match func.toNat with
  | 0x0 => some .nop
  | 0x1 => some .halt
  | 0x2 => some .di
  | 0x3 => some .ei
  | 0x4 => some .reti
  | 0x5 => some (.swi operand)
  | 0x6 => some .scf
  | 0x7 => some .ccf
  | 0x8 => some .sei
  | 0x9 => some .cli
  | _ => none

/-- Opcode 0xF, format X (R91, R95; 48_extended.md R311 to R326): all sixteen sub codes; `w1` is imm16. -/
def decodeExtended (rd rs1 sub : Nibble) (w1 : Word) : Option Instr :=
  match sub.toNat with
  | 0x0 => some (.addix rd rs1 w1)
  | 0x1 => some (.subix rd rs1 w1)
  | 0x2 => some (.andix rd rs1 w1)
  | 0x3 => some (.orix rd rs1 w1)
  | 0x4 => some (.xorix rd rs1 w1)
  | 0x5 => some (.lwx rd rs1 w1)
  | 0x6 => some (.swx rd rs1 w1)
  | 0x7 => some (.lix rd w1)
  | 0x8 => some (.jx w1)
  | 0x9 => some (.jalx w1)
  | 0xA => some (.cmpix rd w1)
  | 0xB => some (.inx rd (w1.extractLsb' 0 8))
  | 0xC => some (.outx rs1 (w1.extractLsb' 0 8))
  | 0xD => some (.sllx rd rs1 (w1.extractLsb' 0 4))
  | 0xE => some (.srlx rd rs1 (w1.extractLsb' 0 4))
  | 0xF => some (.srax rd rs1 (w1.extractLsb' 0 4))
  | _ => none

/-- The instruction the first word `w0` selects, `w1` being the word after it (R100); `none` for a reserved first
word (R104). Only opcode 0xF looks at `w1`, and only for its operand (R107). -/
def decodeWords (w0 w1 : Word) : Option Instr :=
  let d := field3 w0
  let s := field2 w0
  let f := field1 w0
  match (opcodeOf w0).toNat with
  | 0x0 => some (.add d s f)
  | 0x1 => some (.sub d s f)
  | 0x2 => some (.and d s f)
  | 0x3 => some (.or d s f)
  | 0x4 => some (.xor d s f)
  | 0x5 => some (.addi d (imm8Of w0))
  | 0x6 => decodeLoad d s f
  | 0x7 => decodeStore d s f
  | 0x8 => decodeBranch d (imm8Of w0)
  | 0x9 => some (decodeJump w0)
  | 0xA => decodeShift d s f
  | 0xB => decodeMulDiv d s f
  | 0xC => decodeMisc d s f
  | 0xD => decodeIo d s f
  | 0xE => decodeSystem d (imm8Of w0)
  | 0xF => decodeExtended d s f w1
  | _ => none

/-- The first instruction of a run of bytes at increasing addresses, each word little-endian and the first word
first (20_memory.md R51), with the bytes after it. -/
def decode (bytes : List Byte) : Except DecodeError (Instr × List Byte) :=
  match bytes with
  | b0 :: b1 :: rest =>
    let w0 := Word.ofBytes b1 b0
    if isExtended w0 then
      match rest with
      | b2 :: b3 :: rest' =>
        match decodeWords w0 (Word.ofBytes b3 b2) with
        | some i => .ok (i, rest')
        | none => .error (.reserved w0)
      | _ => .error .truncated
    else
      match decodeWords w0 0#16 with
      | some i => .ok (i, rest)
      | none => .error (.reserved w0)
  | _ => .error .truncated

/-! ### The encoder -/

/-- A word from its four fields, bits 15:12 first (R81). -/
def wordOf (op a b c : Nibble) : Word := op ++ a ++ b ++ c

/-- A word from its opcode, bits 11:8 and bits 7:0 (R85, R86, R90). -/
def wordOfImm8 (op a : Nibble) (imm : Byte) : Word := op ++ a ++ imm

/-- The first word of the canonical encoding: unused fields 0 (R103). -/
def firstWord : Instr → Word
  | .add rd rs1 rs2 => wordOf 0x0#4 rd rs1 rs2
  | .sub rd rs1 rs2 => wordOf 0x1#4 rd rs1 rs2
  | .and rd rs1 rs2 => wordOf 0x2#4 rd rs1 rs2
  | .or rd rs1 rs2 => wordOf 0x3#4 rd rs1 rs2
  | .xor rd rs1 rs2 => wordOf 0x4#4 rd rs1 rs2
  | .addi rd imm8 => wordOfImm8 0x5#4 rd imm8
  | .lw rd rs1 => wordOf 0x6#4 rd rs1 0x0#4
  | .lb rd rs1 => wordOf 0x6#4 rd rs1 0x1#4
  | .lbu rd rs1 => wordOf 0x6#4 rd rs1 0x2#4
  | .lwP2 rd rs1 => wordOf 0x6#4 rd rs1 0x3#4
  | .lwP4 rd rs1 => wordOf 0x6#4 rd rs1 0x4#4
  | .lwP6 rd rs1 => wordOf 0x6#4 rd rs1 0x5#4
  | .lwM2 rd rs1 => wordOf 0x6#4 rd rs1 0x6#4
  | .lwM4 rd rs1 => wordOf 0x6#4 rd rs1 0x7#4
  | .lui rd rs1 => wordOf 0x6#4 rd rs1 0x8#4
  | .sw rs2 rs1 => wordOf 0x7#4 rs2 rs1 0x0#4
  | .sb rs2 rs1 => wordOf 0x7#4 rs2 rs1 0x1#4
  | .swP2 rs2 rs1 => wordOf 0x7#4 rs2 rs1 0x2#4
  | .swP4 rs2 rs1 => wordOf 0x7#4 rs2 rs1 0x3#4
  | .swP6 rs2 rs1 => wordOf 0x7#4 rs2 rs1 0x4#4
  | .swM2 rs2 rs1 => wordOf 0x7#4 rs2 rs1 0x5#4
  | .swM4 rs2 rs1 => wordOf 0x7#4 rs2 rs1 0x6#4
  | .beq offset8 => wordOfImm8 0x8#4 0x0#4 offset8
  | .bne offset8 => wordOfImm8 0x8#4 0x1#4 offset8
  | .blt offset8 => wordOfImm8 0x8#4 0x2#4 offset8
  | .bge offset8 => wordOfImm8 0x8#4 0x3#4 offset8
  | .bltu offset8 => wordOfImm8 0x8#4 0x4#4 offset8
  | .bgeu offset8 => wordOfImm8 0x8#4 0x5#4 offset8
  | .bmi offset8 => wordOfImm8 0x8#4 0x6#4 offset8
  | .bpl offset8 => wordOfImm8 0x8#4 0x7#4 offset8
  | .bvs offset8 => wordOfImm8 0x8#4 0x8#4 offset8
  | .bvc offset8 => wordOfImm8 0x8#4 0x9#4 offset8
  | .bcs offset8 => wordOfImm8 0x8#4 0xA#4 offset8
  | .bcc offset8 => wordOfImm8 0x8#4 0xB#4 offset8
  | .bgt offset8 => wordOfImm8 0x8#4 0xC#4 offset8
  | .ble offset8 => wordOfImm8 0x8#4 0xD#4 offset8
  | .bhi offset8 => wordOfImm8 0x8#4 0xE#4 offset8
  | .bls offset8 => wordOfImm8 0x8#4 0xF#4 offset8
  | .jalr rd rs => wordOf 0x9#4 rd rs 0x1#4
  | .jr rs => wordOf 0x9#4 0xF#4 rs 0x0#4
  | .j offset12 => 0x9#4 ++ offset12
  | .sll1 rd rs1 => wordOf 0xA#4 rd rs1 0x0#4
  | .srl1 rd rs1 => wordOf 0xA#4 rd rs1 0x1#4
  | .sra1 rd rs1 => wordOf 0xA#4 rd rs1 0x2#4
  | .rol1 rd rs1 => wordOf 0xA#4 rd rs1 0x3#4
  | .ror1 rd rs1 => wordOf 0xA#4 rd rs1 0x4#4
  | .rcl rd rs1 => wordOf 0xA#4 rd rs1 0x5#4
  | .rcr rd rs1 => wordOf 0xA#4 rd rs1 0x6#4
  | .swap rd rs1 => wordOf 0xA#4 rd rs1 0x7#4
  | .sll4 rd rs1 => wordOf 0xA#4 rd rs1 0x8#4
  | .srl4 rd rs1 => wordOf 0xA#4 rd rs1 0x9#4
  | .sra4 rd rs1 => wordOf 0xA#4 rd rs1 0xA#4
  | .rol4 rd rs1 => wordOf 0xA#4 rd rs1 0xB#4
  | .sll8 rd rs1 => wordOf 0xA#4 rd rs1 0xC#4
  | .srl8 rd rs1 => wordOf 0xA#4 rd rs1 0xD#4
  | .sra8 rd rs1 => wordOf 0xA#4 rd rs1 0xE#4
  | .rol8 rd rs1 => wordOf 0xA#4 rd rs1 0xF#4
  | .mul rd rs1 => wordOf 0xB#4 rd rs1 0x0#4
  | .mulh rd rs1 => wordOf 0xB#4 rd rs1 0x1#4
  | .mulhu rd rs1 => wordOf 0xB#4 rd rs1 0x2#4
  | .div rd rs1 => wordOf 0xB#4 rd rs1 0x3#4
  | .divu rd rs1 => wordOf 0xB#4 rd rs1 0x4#4
  | .rem rd rs1 => wordOf 0xB#4 rd rs1 0x5#4
  | .remu rd rs1 => wordOf 0xB#4 rd rs1 0x6#4
  | .daa rd => wordOf 0xB#4 rd 0x0#4 0x7#4
  | .push rs1 => wordOf 0xC#4 0x0#4 rs1 0x0#4
  | .pop rd => wordOf 0xC#4 rd 0x0#4 0x1#4
  | .cmp rd rs1 => wordOf 0xC#4 rd rs1 0x2#4
  | .test rd rs1 => wordOf 0xC#4 rd rs1 0x3#4
  | .mov rd rs1 => wordOf 0xC#4 rd rs1 0x4#4
  | .ldi => wordOf 0xC#4 0x0#4 0x0#4 0x5#4
  | .ldd => wordOf 0xC#4 0x0#4 0x0#4 0x6#4
  | .ldir => wordOf 0xC#4 0x0#4 0x0#4 0x7#4
  | .lddr => wordOf 0xC#4 0x0#4 0x0#4 0x8#4
  | .cpir => wordOf 0xC#4 0x0#4 0x0#4 0x9#4
  | .fill => wordOf 0xC#4 0x0#4 0x0#4 0xA#4
  | .exx => wordOf 0xC#4 0x0#4 0x0#4 0xB#4
  | .getf rd => wordOf 0xC#4 rd 0x0#4 0xC#4
  | .setf rs1 => wordOf 0xC#4 0x0#4 rs1 0xD#4
  | .ini rd port => wordOf 0xD#4 rd port 0x0#4
  | .outi rd port => wordOf 0xD#4 rd port 0x1#4
  | .inp rd rs1 => wordOf 0xD#4 rd rs1 0x2#4
  | .out rd rs1 => wordOf 0xD#4 rd rs1 0x3#4
  | .nop => wordOfImm8 0xE#4 0x0#4 0x00#8
  | .halt => wordOfImm8 0xE#4 0x1#4 0x00#8
  | .di => wordOfImm8 0xE#4 0x2#4 0x00#8
  | .ei => wordOfImm8 0xE#4 0x3#4 0x00#8
  | .reti => wordOfImm8 0xE#4 0x4#4 0x00#8
  | .scf => wordOfImm8 0xE#4 0x6#4 0x00#8
  | .ccf => wordOfImm8 0xE#4 0x7#4 0x00#8
  | .sei => wordOfImm8 0xE#4 0x8#4 0x00#8
  | .cli => wordOfImm8 0xE#4 0x9#4 0x00#8
  | .swi imm8 => wordOfImm8 0xE#4 0x5#4 imm8
  | .addix rd rs1 _ => wordOf 0xF#4 rd rs1 0x0#4
  | .subix rd rs1 _ => wordOf 0xF#4 rd rs1 0x1#4
  | .andix rd rs1 _ => wordOf 0xF#4 rd rs1 0x2#4
  | .orix rd rs1 _ => wordOf 0xF#4 rd rs1 0x3#4
  | .xorix rd rs1 _ => wordOf 0xF#4 rd rs1 0x4#4
  | .lwx rd rs1 _ => wordOf 0xF#4 rd rs1 0x5#4
  | .swx rd rs1 _ => wordOf 0xF#4 rd rs1 0x6#4
  | .lix rd _ => wordOf 0xF#4 rd 0x0#4 0x7#4
  | .jx _ => wordOf 0xF#4 0x0#4 0x0#4 0x8#4
  | .jalx _ => wordOf 0xF#4 0x0#4 0x0#4 0x9#4
  | .cmpix rd _ => wordOf 0xF#4 rd 0x0#4 0xA#4
  | .inx rd _ => wordOf 0xF#4 rd 0x0#4 0xB#4
  | .outx rs1 _ => wordOf 0xF#4 0x0#4 rs1 0xC#4
  | .sllx rd rs1 _ => wordOf 0xF#4 rd rs1 0xD#4
  | .srlx rd rs1 _ => wordOf 0xF#4 rd rs1 0xE#4
  | .srax rd rs1 _ => wordOf 0xF#4 rd rs1 0xF#4

/-- The second word of the canonical encoding, for opcode 0xF (R91, R95): unused bits 0 (R103). -/
def secondWord : Instr → Option Word
  | .add _ _ _ => none
  | .sub _ _ _ => none
  | .and _ _ _ => none
  | .or _ _ _ => none
  | .xor _ _ _ => none
  | .addi _ _ => none
  | .lw _ _ => none
  | .lb _ _ => none
  | .lbu _ _ => none
  | .lwP2 _ _ => none
  | .lwP4 _ _ => none
  | .lwP6 _ _ => none
  | .lwM2 _ _ => none
  | .lwM4 _ _ => none
  | .lui _ _ => none
  | .sw _ _ => none
  | .sb _ _ => none
  | .swP2 _ _ => none
  | .swP4 _ _ => none
  | .swP6 _ _ => none
  | .swM2 _ _ => none
  | .swM4 _ _ => none
  | .beq _ => none
  | .bne _ => none
  | .blt _ => none
  | .bge _ => none
  | .bltu _ => none
  | .bgeu _ => none
  | .bmi _ => none
  | .bpl _ => none
  | .bvs _ => none
  | .bvc _ => none
  | .bcs _ => none
  | .bcc _ => none
  | .bgt _ => none
  | .ble _ => none
  | .bhi _ => none
  | .bls _ => none
  | .jalr _ _ => none
  | .jr _ => none
  | .j _ => none
  | .sll1 _ _ => none
  | .srl1 _ _ => none
  | .sra1 _ _ => none
  | .rol1 _ _ => none
  | .ror1 _ _ => none
  | .rcl _ _ => none
  | .rcr _ _ => none
  | .swap _ _ => none
  | .sll4 _ _ => none
  | .srl4 _ _ => none
  | .sra4 _ _ => none
  | .rol4 _ _ => none
  | .sll8 _ _ => none
  | .srl8 _ _ => none
  | .sra8 _ _ => none
  | .rol8 _ _ => none
  | .mul _ _ => none
  | .mulh _ _ => none
  | .mulhu _ _ => none
  | .div _ _ => none
  | .divu _ _ => none
  | .rem _ _ => none
  | .remu _ _ => none
  | .daa _ => none
  | .push _ => none
  | .pop _ => none
  | .cmp _ _ => none
  | .test _ _ => none
  | .mov _ _ => none
  | .ldi => none
  | .ldd => none
  | .ldir => none
  | .lddr => none
  | .cpir => none
  | .fill => none
  | .exx => none
  | .getf _ => none
  | .setf _ => none
  | .ini _ _ => none
  | .outi _ _ => none
  | .inp _ _ => none
  | .out _ _ => none
  | .nop => none
  | .halt => none
  | .di => none
  | .ei => none
  | .reti => none
  | .scf => none
  | .ccf => none
  | .sei => none
  | .cli => none
  | .swi _ => none
  | .addix _ _ imm16 => some imm16
  | .subix _ _ imm16 => some imm16
  | .andix _ _ imm16 => some imm16
  | .orix _ _ imm16 => some imm16
  | .xorix _ _ imm16 => some imm16
  | .lwx _ _ imm16 => some imm16
  | .swx _ _ imm16 => some imm16
  | .lix _ imm16 => some imm16
  | .jx addr16 => some addr16
  | .jalx addr16 => some addr16
  | .cmpix _ imm16 => some imm16
  | .inx _ port8 => some (0x00#8 ++ port8)
  | .outx _ port8 => some (0x00#8 ++ port8)
  | .sllx _ _ imm4 => some (0x000#12 ++ imm4)
  | .srlx _ _ imm4 => some (0x000#12 ++ imm4)
  | .srax _ _ imm4 => some (0x000#12 ++ imm4)

/-- The two bytes of a word in memory order (20_memory.md R50, R51). -/
def bytesOfWord (w : Word) : List Byte := [w.lowByte, w.highByte]

/-- The bytes of the canonical encoding, for every operand the types allow. -/
def encodeBytes (i : Instr) : List Byte :=
  bytesOfWord (firstWord i) ++ ((secondWord i).map bytesOfWord).getD []

/-- The encoder: it refuses an instruction that has no encoding (R102). -/
def encode (i : Instr) : Option (List Byte) := if i.wellFormed then some (encodeBytes i) else none

/-- The length of the instruction in bytes, `len` of 00_scope.md R11: 4 for opcode 0xF, else 2. -/
def Instr.lengthBytes (i : Instr) : Nat := if (secondWord i).isSome then 4 else 2

/-! ### The host's entry -/

/-- The bytes, in memory order, of an instruction whose bits are `w`, numbered from the least significant bit of the
first word; bits from `nbits` up are 0. Four bytes, the longest instruction. -/
def tableBytes (nbits w : Nat) : List Byte :=
  let v := w % 2 ^ nbits
  [BitVec.ofNat 8 v, BitVec.ofNat 8 (v / 2 ^ 8), BitVec.ofNat 8 (v / 2 ^ 16), BitVec.ofNat 8 (v / 2 ^ 24)]

/-- The instruction the decoder reads from a row of the opcode table. -/
def decodeTableWord (nbits w : Nat) : Option Instr :=
  match decode (tableBytes nbits w) with
  | .ok (i, _) => some i
  | .error _ => none

end Sys2Proof
end

