-- ==== Sys2Proof/Config.lean ====
section
/-! DEFINITION. The parameters of 00_scope.md R8 that the spec leaves OPEN, as constants nothing in Lean can
evaluate: a claim over the model holds for every value of them. The OPEN reset values are the exception, named
here and in log entries 1 to 5. TRAP_MODEL, which speaks of the state, is in Machine/TrapModel.lean.
Parameters with a definite value in R8 are built into the rules that use them. -/

namespace Sys2Proof

/-- FLAGS_LAYOUT (10_state.md R26): five distinct bit numbers of the 8-bit FLAGS register; `posI` may be `none`.
The default values only show that a layout exists. -/
structure FlagsLayout where
  posN : Fin 8 := 0
  posZ : Fin 8 := 1
  posC : Fin 8 := 2
  posV : Fin 8 := 3
  posI : Option (Fin 8) := none
  distinct : ([some posN, some posZ, some posC, some posV, posI].filterMap id).Nodup := by decide
deriving Inhabited

/-- I_FLAG_RELATION (10_state.md R27): how the interrupt flag I relates to the interrupt enable IE. -/
inductive IFlagRelation where
  /-- one bit, I = IE -/
  | same
  /-- one bit, I = not IE -/
  | inverted
  /-- two bits -/
  | separate
deriving DecidableEq, Repr, Inhabited

/-- The four division instructions, as the parameters DIV_ZERO and DIV_OVF name them (44_muldiv.md R231). -/
inductive DivOp where
  | div | divu | rem | remu
deriving DecidableEq, Repr

/-- One port access, as the platform sees it (10_state.md R31; 93_implementation_defined.md U22). -/
inductive PortEvent where
  /-- `PortRead(port)` answered `value` -/
  | read (port : Byte) (value : Word)
  /-- `PortWrite(port, value)` -/
  | write (port : Byte) (value : Word)
deriving DecidableEq, Repr

/-- FLAGS_LAYOUT, OPEN (R26, D20): log 9. -/
opaque Config.flagsLayout : FlagsLayout

/-- The value GETF reads from the bits FLAGS_LAYOUT does not name, a fresh one for each draw
(R26, U9: "any value"): log 10. -/
opaque Config.freeFlagBits : Nat → Byte

/-- I_FLAG_RELATION, OPEN (R27, D21): log 11. -/
opaque Config.iFlagRelation : IFlagRelation

/-- The free choice behind EXX_SET, OPEN (10_state.md R28, D25): log 12. -/
opaque Config.exxChosen : RegNum → Bool

/-- EXX_SET: the registers that have an alternate, a subset of 1..15 (R28; 45_stack_misc.md R261: "register 0 is
not in EXX_SET"). -/
def Config.inExxSet (r : RegNum) : Bool := r != 0#4 && Config.exxChosen r

/-- DIV_ZERO(op, p), OPEN (44_muldiv.md R231, D15): what a division of `p` by zero writes to Rd. Log 13. -/
opaque Config.divZero : DivOp → Word → Word

/-- DIV_OVF(op), OPEN (R231, D15): what 0x8000 / 0xFFFF, signed, writes to Rd. Log 13. -/
opaque Config.divOvf : DivOp → Word

/-- The platform behind the ports (10_state.md R31: an oracle): its answer to a read of a port, given every port
access before it, newest first. Log 16. -/
opaque Config.portAnswer : List PortEvent → Byte → Word

/-- RESET_PC, OPEN (10_state.md R34, D30). DESIGN CHOICE, log 1. Even, as 70_reset_and_hazards.md R371 asks. -/
def Config.resetPc : Word := 0#16

/-- R1 to R15 after reset, RESET_SP among them (R34, D30). DESIGN CHOICE, log 2. -/
def Config.resetReg : Word := 0#16

/-- The alternate registers after reset (R34). DESIGN CHOICE, log 3. -/
def Config.resetAlt : Word := 0#16

/-- IE after reset, RESET_IE (R34, D30). DESIGN CHOICE, log 5. -/
def Config.resetIe : Bool := false

/-- The value I_FLAG_RELATION forces on I when IE is `ie`, and `i` when it forces none (R27). -/
def IFlagRelation.iOf (rel : IFlagRelation) (ie i : Bool) : Bool :=
  match rel with
  | .same => ie
  | .inverted => !ie
  | .separate => i

/-- The value I_FLAG_RELATION forces on IE when I is `i`, and `ie` when it forces none (R27; 47_system.md R298,
R299). -/
def IFlagRelation.ieOf (rel : IFlagRelation) (i ie : Bool) : Bool :=
  match rel with
  | .same => i
  | .inverted => !i
  | .separate => ie

end Sys2Proof
end

