-- ==== Sys2Proof/Machine/State.lean ====
section
/-! DEFINITION. The state of the machine (10_state.md R20), as plain data, the reasons a step stops, and the state
after reset (10_state.md R34). -/

namespace Sys2Proof.Machine

/-- The four arithmetic flags (10_state.md R25). -/
structure Flags where
  /-- negative -/
  n : Bool
  /-- zero -/
  z : Bool
  /-- carry; after a subtraction, no borrow -/
  c : Bool
  /-- signed overflow -/
  v : Bool
deriving DecidableEq, Repr, Inhabited

/-- What backs an address, the values of MEM_POPULATED (20_memory.md R59); `absent` is the spec's `none`. -/
inductive MemKind where
  | ram | rom | absent
deriving DecidableEq, Repr

/-- A run of addresses of one kind: `size` bytes from `base` (20_memory.md R59). -/
structure Region where
  base : Nat
  size : Nat
  kind : MemKind
deriving DecidableEq, Repr

/-- Memory bytes by address, in one canonical form (`Memory.wf` in Ops.lean): addresses rising, none equal to what an
unlisted address reads as. -/
abbrev Memory := List Host.Cell

/-- What a byte that is not listed reads as. The spec gives memory no value before a program or the platform writes
it (10_state.md R34). DESIGN CHOICE, log 6. -/
def unlistedByte : Byte := 0#8

/-- The state of the core (10_state.md R20), and three fields of the model (`memMap`, `portTrace`, `freeCount`). -/
structure State where
  /-- R1 to R15; R0 is the constant 0 and has no place here (R20, R21) -/
  regs : Vector Word 15
  /-- the alternates of R1 to R15, used where EXX_SET holds the number (R28) -/
  alt : Vector Word 15
  /-- the program counter (R23) -/
  pc : Word
  /-- N, Z, C, V (R25); the FLAGS register is a view of these and `i` (R26) -/
  flags : Flags
  /-- the interrupt enable IE (R27) -/
  ie : Bool
  /-- the interrupt flag I (R27) -/
  i : Bool
  /-- the core has executed HALT (R29) -/
  halted : Bool
  /-- M (R30) -/
  mem : Memory
  /-- the model's: MEM_POPULATED (20_memory.md R59), constant; addresses in no region are RAM. Log 7 -/
  memMap : List Region
  /-- the model's: the port accesses so far, newest first (93_implementation_defined.md U22). Log 16 -/
  portTrace : List PortEvent
  /-- the model's: how many free FLAGS values GETF has drawn. Log 10 -/
  freeCount : Nat
deriving DecidableEq, Repr

/-- What the spec encodes and gives no operation (60_exceptions.md R341, stop `Unspecified`). -/
inductive UnspecifiedOp where
  | daa | ldi | ldd | ldir | lddr | cpir | fill | popSp
deriving DecidableEq, Repr

/-- The model stops of 00_scope.md R12 and 60_exceptions.md R341. Every one is precise: the state is that before the
instruction (R345). All are safe: the model stops where the spec gives nothing to go on with. -/
inductive Fault where
  /-- The fetch of any instruction, at an odd pc (20_memory.md R56). Safe. -/
  | misalignedFetch (pc : Word)
  /-- A fetch, load, store, PUSH or POP that touches an address outside MEM_POPULATED, or a store to ROM
  (20_memory.md R59). Safe. -/
  | unpopulated (addr : Word)
  /-- The decode of a reserved first word (30_encoding.md R105). Safe. -/
  | illegalInstruction (w0 : Word)
  /-- DAA, LDI, LDD, LDIR, LDDR, CPIR, FILL, and POP into SP (44_muldiv.md R239; 45_stack_misc.md R251, R256). Safe. -/
  | unspecified (what : UnspecifiedOp)
  /-- A 16-bit data access at an odd address (20_memory.md R55). Safe. -/
  | misalignedAccess (ea : Word)
deriving DecidableEq, Repr

/-- Refusals are for instructions without a meaning in the model. -/
inductive Refusal where
  /-- Raised by `exec` alone, for an instruction not modelled yet; no arm raises it now. Safe. -/
  | notModelled (mnemonic : String)
deriving DecidableEq, Repr

/-- The machine right after reset (10_state.md R34; 70_reset_and_hazards.md R370): not halted, nothing in memory, the
rest at the values log entries 1 to 7, 10 and 16 name. I has the value its relation to IE forces. -/
def State.reset : State where
  regs := Vector.replicate 15 Config.resetReg
  alt := Vector.replicate 15 Config.resetAlt
  pc := Config.resetPc
  flags := { n := false, z := false, c := false, v := false }
  ie := Config.resetIe
  i := Config.iFlagRelation.iOf Config.resetIe false
  halted := false
  mem := []
  memMap := []
  portTrace := []
  freeCount := 0

end Sys2Proof.Machine
end

