-- ==== Sys2Proof/Machine/TrapModel.lean ====
section
/-! DEFINITION. TRAP_MODEL (60_exceptions.md R346), the OPEN parameter that says what SWI and RETI do: two functions
of the state nothing in Lean can evaluate. Each answers with everything R346 lists as a trap model's to define, and
with nothing else. The third function, `irq`, has no use while IRQ_SOURCES is empty (R343, log 34). Log 14. -/

namespace Sys2Proof.Machine

/-- What a trap model's function defines (R346): the new pc; "what is written to memory or registers" (the stack, RA,
SP and the alternates of EXX among them); the flags and the interrupt bits after. -/
structure TrapEffect where
  pc : Word
  regs : List (RegNum × Word)
  alts : List (RegNum × Word)
  bytes : List (Word × Byte)
  flags : Flags
  ie : Bool
  i : Bool
deriving DecidableEq, Repr, Inhabited

end Sys2Proof.Machine

namespace Sys2Proof

/-- `TRAP_MODEL.swi(state, imm8)` (47_system.md R295): the state's pc is the address of the SWI word. -/
opaque Config.trapSwi : Machine.State → Byte → Machine.TrapEffect

/-- `TRAP_MODEL.reti(state)` (47_system.md R294). -/
opaque Config.trapReti : Machine.State → Machine.TrapEffect

end Sys2Proof
end

