-- ==== Sys2Proof/Machine/Ops.lean ====
section
/-! DEFINITION. The primitives of 00_scope.md R11 over the state: registers, memory, ports, interrupt bits, alternates,
trap entry and return, and the fetch. Meanings are built from these alone. -/

namespace Sys2Proof.Machine

/-- The answer of a meaning and of a step. -/
abbrev Result := Host.Outcome State Fault Refusal

/-! ### Registers -/

/-- The place of register `r`, not R0, among R1 to R15. -/
def regIndex (r : RegNum) : Fin 15 := ⟨r.toNat - 1, by have := r.isLt; omega⟩

/-- `x[r]`: register 0 reads 0x0000 (10_state.md R21). -/
def State.readReg (s : State) (r : RegNum) : Word := if r = 0#4 then 0#16 else s.regs[regIndex r]

/-- `x[r] <- v` on the register file: a write to register 0 is discarded (R21). -/
def setReg (regs : Vector Word 15) (r : RegNum) (v : Word) : Vector Word 15 :=
  if r = 0#4 then regs else regs.set (regIndex r) v

/-- `x[r] <- v`. -/
def State.writeReg (s : State) (r : RegNum) (v : Word) : State := { s with regs := setReg s.regs r v }

/-- `alt[r]`, for r in 1..15 (10_state.md R28); there is no alternate of R0. -/
def State.readAlt (s : State) (r : RegNum) : Word := if r = 0#4 then 0#16 else s.alt[regIndex r]

/-- The register that is RA (10_state.md R22). -/
def regRA : RegNum := 1#4

/-- The register that is SP (R22). -/
def regSP : RegNum := 2#4

/-- The file `own` with the registers of EXX_SET taken from `other` (45_stack_misc.md R261). -/
def exchange (own other : Vector Word 15) : Vector Word 15 :=
  Vector.ofFn fun k => if Config.inExxSet (BitVec.ofNat 4 (k.val + 1)) then other[k] else own[k]

/-- EXX's exchange, all registers of EXX_SET at once (R261). -/
def State.swapAlternates (s : State) : State :=
  { s with regs := exchange s.regs s.alt, alt := exchange s.alt s.regs }

/-! ### Program counter, flags, run state -/

/-- `pc <- pc + len`, modulo 2^16 (10_state.md R23, R24). -/
def State.advance (s : State) (len : Word) : State := { s with pc := s.pc + len }

/-- `pc <- t`. An odd target is taken as it is (R24; 42_branch_jump.md R192). -/
def State.jumpTo (s : State) (t : Word) : State := { s with pc := t }

/-- The four flags, written together. -/
def State.setFlags (s : State) (f : Flags) : State := { s with flags := f }

/-- `C <- c`, the other flags unchanged. -/
def State.setCarry (s : State) (c : Bool) : State := { s with flags := { s.flags with c := c } }

/-- `halted <- 1` (10_state.md R29). -/
def State.halt (s : State) : State := { s with halted := true }

/-- `IE <- b`; I follows by I_FLAG_RELATION (R27; 47_system.md R292, R293). -/
def State.setIe (s : State) (b : Bool) : State :=
  { s with ie := b, i := Config.iFlagRelation.iOf b s.i }

/-- `I <- b`; IE follows by I_FLAG_RELATION (R27; 47_system.md R298, R299). -/
def State.setI (s : State) (b : Bool) : State :=
  { s with i := b, ie := Config.iFlagRelation.ieOf b s.ie }

/-! ### Memory -/

/-- The byte listed at an address, or what an unlisted one reads as. -/
def Memory.read (m : Memory) (a : Nat) : Byte :=
  match m with
  | [] => unlistedByte
  | (k, v) :: rest => if k = a then v else Memory.read rest a

/-- Write one byte and keep the canonical form: writing the value an unlisted address reads as removes the entry. -/
def Memory.write (m : Memory) (a : Nat) (b : Byte) : Memory :=
  match m with
  | [] => if b = unlistedByte then [] else [(a, b)]
  | (k, v) :: rest =>
    if a < k then (if b = unlistedByte then (k, v) :: rest else (a, b) :: (k, v) :: rest)
    else if a = k then (if b = unlistedByte then rest else (a, b) :: rest)
    else (k, v) :: Memory.write rest a b

/-- The canonical form for addresses from `low` up. -/
def Memory.wfFrom (low : Nat) (m : Memory) : Bool :=
  match m with
  | [] => true
  | (k, v) :: rest => decide (low ≤ k) && decide (k < 2 ^ 16) && v != unlistedByte && Memory.wfFrom (k + 1) rest

/-- The canonical form: 16-bit addresses (20_memory.md, 10_state.md R30), strictly rising, and no entry equal to what
an unlisted address reads as. -/
def Memory.wf (m : Memory) : Bool := Memory.wfFrom 0 m

/-- The address lies in the region. -/
def Region.holds (r : Region) (a : Word) : Bool := decide (r.base ≤ a.toNat) && decide (a.toNat < r.base + r.size)

/-- MEM_POPULATED as a map (20_memory.md R59): the first region that holds the address, else RAM. -/
def kindIn (map : List Region) (a : Word) : MemKind :=
  match map with
  | [] => .ram
  | r :: rest => if r.holds a then r.kind else kindIn rest a

/-- What backs the address. -/
def State.kindAt (s : State) (a : Word) : MemKind := kindIn s.memMap a

/-- `M[a]`, with no check of population. -/
def State.byteAt (s : State) (a : Word) : Byte := Memory.read s.mem a.toNat

/-- The word at `a`, little-endian (20_memory.md R50): `M[a+1] ++ M[a]`, with no check. -/
def State.wordAt (s : State) (a : Word) : Word := Word.ofBytes (s.byteAt (a + 1#16)) (s.byteAt a)

/-- `M[a] <- b`, with no check. -/
def State.setByte (s : State) (a : Word) (b : Byte) : State := { s with mem := Memory.write s.mem a.toNat b }

/-- Both bytes of a word, little-endian (20_memory.md R53), with no check. -/
def State.setWord (s : State) (a : Word) (v : Word) : State :=
  (s.setByte a v.lowByte).setByte (a + 1#16) v.highByte

/-- A read of the byte is a read of memory (20_memory.md R52, R59). -/
def State.readable (s : State) (a : Word) : Bool := s.kindAt a != .absent

/-- A write of the byte is a write of RAM (20_memory.md R53, R59). -/
def State.writable (s : State) (a : Word) : Bool := s.kindAt a == .ram

/-- The address is odd. -/
def isOdd (a : Word) : Bool := a.getLsbD 0

/-- `MemRead(a, 1)` (20_memory.md R52). -/
def State.loadByte (s : State) (a : Word) : Except Fault Byte :=
  if s.readable a then .ok (s.byteAt a) else .error (.unpopulated a)

/-- `MemRead(a, 2)` (R52): alignment before population (60_exceptions.md R342). -/
def State.loadWord (s : State) (a : Word) : Except Fault Word :=
  if isOdd a then .error (.misalignedAccess a)
  else if s.readable a && s.readable (a + 1#16) then .ok (s.wordAt a)
  else .error (.unpopulated a)

/-- `MemWrite(a, 1, b)` (20_memory.md R53). -/
def State.storeByte (s : State) (a : Word) (b : Byte) : Except Fault State :=
  if s.writable a then .ok (s.setByte a b) else .error (.unpopulated a)

/-- `MemWrite(a, 2, v)` (R53): alignment before population (60_exceptions.md R342), both bytes or neither (R345). -/
def State.storeWord (s : State) (a : Word) (v : Word) : Except Fault State :=
  if isOdd a then .error (.misalignedAccess a)
  else if s.writable a && s.writable (a + 1#16) then .ok (s.setWord a v)
  else .error (.unpopulated a)

/-! ### Ports -/

/-- What `PortRead(p)` answers now (10_state.md R31): a free value, log 16. -/
def State.portAnswer (s : State) (p : Byte) : Word := Config.portAnswer s.portTrace p

/-- The port access is made: the platform sees it after all earlier ones (20_memory.md R61 c, R68). -/
def State.recordPort (s : State) (e : PortEvent) : State := { s with portTrace := e :: s.portTrace }

/-! ### Free values -/

/-- The free value GETF reads from the unnamed bits of FLAGS (10_state.md R26), log 10. -/
def State.freeBits (s : State) : Byte := Config.freeFlagBits s.freeCount

/-- A free value has been drawn; the next one is another. -/
def State.drawFree (s : State) : State := { s with freeCount := s.freeCount + 1 }

/-! ### Traps -/

/-- A trap model's write to one byte. Only RAM can be written (20_memory.md R53, R59); SWI and RETI stop for no data
access (60_exceptions.md R341), so a write elsewhere is dropped. Log 15. -/
def pokeRam (map : List Region) (m : Memory) (w : Word × Byte) : Memory :=
  if kindIn map w.1 == .ram then Memory.write m w.1.toNat w.2 else m

/-- A trap model's write to one alternate register (R346, log 14). -/
def setAlt (alt : Vector Word 15) (w : RegNum × Word) : Vector Word 15 := setReg alt w.1 w.2

/-- Taking a trap and returning from one are this one operation (60_exceptions.md R346): everything the trap model
says, and nothing else, is written; I keeps its relation to IE (10_state.md R27). Log 14. -/
def State.applyTrap (s : State) (e : TrapEffect) : State :=
  { s with
    mem := e.bytes.foldl (pokeRam s.memMap) s.mem
    regs := e.regs.foldl (fun rs w => setReg rs w.1 w.2) s.regs
    alt := e.alts.foldl setAlt s.alt
    pc := e.pc
    flags := e.flags
    ie := e.ie
    i := Config.iFlagRelation.iOf e.ie e.i }

/-- SWI's entry: `state <- TRAP_MODEL.swi(state, imm8)` (47_system.md R295). -/
def State.enterTrap (s : State) (imm8 : Byte) : State := s.applyTrap (Config.trapSwi s imm8)

/-- RETI's return: `state <- TRAP_MODEL.reti(state)` (47_system.md R294). -/
def State.returnFromTrap (s : State) : State := s.applyTrap (Config.trapReti s)

/-! ### Fetch -/

/-- The fetch (20_memory.md R57), its stops in the order of 60_exceptions.md R342: the first word, and for opcode 0xF
the second; 0 stands for the word that is not fetched. -/
def State.fetch (s : State) : Except Fault (Word × Word) :=
  if isOdd s.pc then .error (.misalignedFetch s.pc)
  else if s.readable s.pc && s.readable (s.pc + 1#16) then
    let w0 := s.wordAt s.pc
    if isExtended w0 then
      if s.readable (s.pc + 2#16) && s.readable (s.pc + 3#16) then .ok (w0, s.wordAt (s.pc + 2#16))
      else .error (.unpopulated (s.pc + 2#16))
    else .ok (w0, 0#16)
  else .error (.unpopulated s.pc)

/-! ### Endings of a meaning -/

/-- The instruction writes `v` to `rd` and goes on to the next one, `len` bytes on. -/
def State.finish (s : State) (rd : RegNum) (v len : Word) : Result := .next ((s.writeReg rd v).advance len)

/-- A word load into `rd` (41_load_store.md R141; 48_extended.md R316): on a stop nothing changes. -/
def State.loadInto (s : State) (rd : RegNum) (ea len : Word) : Result :=
  match s.loadWord ea with
  | .ok v => s.finish rd v len
  | .error f => .fault f

/-- A byte load, extended to 16 bits by `ext` (41_load_store.md R143, R144). -/
def State.loadByteInto (s : State) (rd : RegNum) (ea : Word) (ext : Byte → Word) : Result :=
  match s.loadByte ea with
  | .ok b => s.finish rd (ext b) 2#16
  | .error f => .fault f

/-- A word store (41_load_store.md R141; 48_extended.md R317): on a stop nothing changes. -/
def State.storeFrom (s : State) (ea v len : Word) : Result :=
  match s.storeWord ea v with
  | .ok t => .next (t.advance len)
  | .error f => .fault f

/-- A byte store (41_load_store.md R153). -/
def State.storeByteFrom (s : State) (ea : Word) (b : Byte) : Result :=
  match s.storeByte ea b with
  | .ok t => .next (t.advance 2#16)
  | .error f => .fault f

/-- A port read into `rd` (46_io.md R280): one access, recorded, and its answer written. -/
def State.portInto (s : State) (rd : RegNum) (p : Byte) (len : Word) : Result :=
  (s.recordPort (.read p (s.portAnswer p))).finish rd (s.portAnswer p) len

/-- A port write (46_io.md R280). -/
def State.portFrom (s : State) (p : Byte) (v len : Word) : Result :=
  .next ((s.recordPort (.write p v)).advance len)

end Sys2Proof.Machine
end

