-- ==== Sys2Proof/Machine/Flags.lean ====
section
/-! DEFINITION. The flag arithmetic (40_alu.md R120 to R122) and the FLAGS register as 8 bits (10_state.md R26). -/

namespace Sys2Proof.Machine

/-- `AddFlags(a, b)` (40_alu.md R120): the result and N, Z, C (carry out of bit 15), V (signed overflow). -/
def addFlags (a b : Word) : Word × Flags :=
  let r := a + b
  (r, { n := r.msb
        z := r == 0#16
        c := decide (2 ^ 16 ≤ a.toNat + b.toNat)
        v := a.msb == b.msb && r.msb != a.msb })

/-- `SubFlags(a, b)` (40_alu.md R121): C = 1 is no borrow. -/
def subFlags (a b : Word) : Word × Flags :=
  let r := a - b
  (r, { n := r.msb
        z := r == 0#16
        c := decide (b.toNat ≤ a.toNat)
        v := a.msb != b.msb && r.msb != a.msb })

/-- `LogicFlags(r)` (40_alu.md R122): N and Z from the result, C and V as they were. OR and XOR use this. -/
def logicFlags (old : Flags) (r : Word) : Flags := { old with n := r.msb, z := r == 0#16 }

/-- The flags of AND and TEST (R122, R125; 45_stack_misc.md R253): N and Z from the result, C and V cleared. -/
def andFlags (r : Word) : Flags := { n := r.msb, z := r == 0#16, c := false, v := false }

/-- Bit `k` of `f` replaced by `b`. -/
def putBit (f : Byte) (k : Fin 8) (b : Bool) : Byte :=
  if b then f ||| (1#8 <<< k.val) else f &&& ~~~(1#8 <<< k.val)

/-- Bit `k` of `f`. -/
def bitAt (f : Byte) (k : Fin 8) : Bool := f.getLsbD k.val

/-- FLAGS as GETF reads it (45_stack_misc.md R263): the named bits at the places of FLAGS_LAYOUT, every other bit from
`free`. -/
def flagsByte (l : FlagsLayout) (f : Flags) (i : Bool) (free : Byte) : Byte :=
  let named := putBit (putBit (putBit (putBit free l.posN f.n) l.posZ f.z) l.posC f.c) l.posV f.v
  match l.posI with
  | some k => putBit named k i
  | none => named

/-- N, Z, C, V as SETF takes them from a byte (45_stack_misc.md R264); the other bits are discarded. -/
def flagsOfByte (l : FlagsLayout) (f : Byte) : Flags :=
  { n := bitAt f l.posN, z := bitAt f l.posZ, c := bitAt f l.posC, v := bitAt f l.posV }

/-- `FLAGS = f` (R264): N, Z, C, V, and I where the layout has a place for it, IE following by I_FLAG_RELATION. -/
def State.writeFlagsByte (s : State) (f : Byte) : State :=
  { s with
    flags := flagsOfByte Config.flagsLayout f
    i := (Config.flagsLayout.posI.map (bitAt f)).getD s.i
    ie := (Config.flagsLayout.posI.map fun k => Config.iFlagRelation.ieOf (bitAt f k) s.ie).getD s.ie }

end Sys2Proof.Machine
end

