-- ==== Sys2Proof/Machine/Operands.lean ====
section
/-! DEFINITION. The operand forms: effective addresses (41_load_store.md R140; 20_memory.md R58), immediates and
targets (30_encoding.md R92 to R97), port numbers (R96). -/

namespace Sys2Proof.Machine

/-- ADDI's immediate, sign-extended (30_encoding.md R92). -/
def immOf (imm8 : Byte) : Word := imm8.signExtend 16

/-- The byte displacement of a branch, `sext_16(offset8) << 1` (R93). -/
def branchDisp (offset8 : Byte) : Word := offset8.signExtend 16 <<< 1

/-- The byte displacement of J, `sext_16(offset12) << 1` (R94). -/
def jumpDisp (offset12 : BitVec 12) : Word := offset12.signExtend 16 <<< 1

/-- A relative target is counted from the next instruction, `pc + 2`, modulo 2^16 (R93, R94). -/
def State.relative (s : State) (disp : Word) : Word := s.pc + 2#16 + disp

/-- Base register plus displacement, modulo 2^16 (41_load_store.md R140; 48_extended.md R316; 20_memory.md R58). -/
def State.ea (s : State) (base : RegNum) (d : Word) : Word := s.readReg base + d

/-- A 4-bit port number, `zext_8` (30_encoding.md R96). -/
def portOfNibble (p : Nibble) : Byte := p.zeroExtend 8

/-- A port number in a register: bits 7:0, the rest ignored (30_encoding.md R96; 46_io.md R284). -/
def State.portInReg (s : State) (r : RegNum) : Byte := (s.readReg r).lowByte

/-- Where PUSH stores: SP - 2, modulo 2^16 (45_stack_misc.md R250). -/
def State.pushSlot (s : State) : Word := s.readReg regSP - 2#16

end Sys2Proof.Machine
end

