-- ==== Sys2Proof/Machine/Alu.lean ====
section
/-! DEFINITION. Opcodes 0x0 to 0x5 (40_alu.md R123 to R128). -/

namespace Sys2Proof.Machine

/-- A result with its flags, written to `rd` (40_alu.md R123, R124, R128): the flags are written even for R0. -/
def State.finishFlags (s : State) (rd : RegNum) (r : Word × Flags) (len : Word) : Result :=
  (s.setFlags r.2).finish rd r.1 len

/-- ADD (R123). -/
def execAdd (rd rs1 rs2 : RegNum) (s : State) : Result :=
  s.finishFlags rd (addFlags (s.readReg rs1) (s.readReg rs2)) 2#16

/-- SUB (R124). -/
def execSub (rd rs1 rs2 : RegNum) (s : State) : Result :=
  s.finishFlags rd (subFlags (s.readReg rs1) (s.readReg rs2)) 2#16

/-- AND (R125): C and V cleared. -/
def execAnd (rd rs1 rs2 : RegNum) (s : State) : Result :=
  let r := s.readReg rs1 &&& s.readReg rs2
  s.finishFlags rd (r, andFlags r) 2#16

/-- OR (R126): C and V unchanged. -/
def execOr (rd rs1 rs2 : RegNum) (s : State) : Result :=
  let r := s.readReg rs1 ||| s.readReg rs2
  s.finishFlags rd (r, logicFlags s.flags r) 2#16

/-- XOR (R127): C and V unchanged. -/
def execXor (rd rs1 rs2 : RegNum) (s : State) : Result :=
  let r := s.readReg rs1 ^^^ s.readReg rs2
  s.finishFlags rd (r, logicFlags s.flags r) 2#16

/-- ADDI (R128): rd is source and destination. -/
def execAddi (rd : RegNum) (imm8 : Byte) (s : State) : Result :=
  s.finishFlags rd (addFlags (s.readReg rd) (immOf imm8)) 2#16

end Sys2Proof.Machine
end

