-- ==== Sys2Proof/Machine/Branch.lean ====
section
/-! DEFINITION. Opcodes 0x8 and 0x9 (42_branch_jump.md R170 to R190). No flags and, but for JALR's link, no registers
are written. -/

namespace Sys2Proof.Machine

/-- The common behaviour of the sixteen branches (R171). -/
def State.branchIf (s : State) (taken : Bool) (offset8 : Byte) : Result :=
  .next (s.jumpTo (if taken then s.relative (branchDisp offset8) else s.pc + 2#16))

/-- BEQ (R172): taken when Z = 1. -/
def execBeq (offset8 : Byte) (s : State) : Result := s.branchIf s.flags.z offset8

/-- BNE (R173): taken when Z = 0. -/
def execBne (offset8 : Byte) (s : State) : Result := s.branchIf (!s.flags.z) offset8

/-- BLT (R174): taken when N != V. -/
def execBlt (offset8 : Byte) (s : State) : Result := s.branchIf (s.flags.n != s.flags.v) offset8

/-- BGE (R175): taken when N = V. -/
def execBge (offset8 : Byte) (s : State) : Result := s.branchIf (s.flags.n == s.flags.v) offset8

/-- BLTU (R176): taken when C = 0. -/
def execBltu (offset8 : Byte) (s : State) : Result := s.branchIf (!s.flags.c) offset8

/-- BGEU (R177): taken when C = 1. -/
def execBgeu (offset8 : Byte) (s : State) : Result := s.branchIf s.flags.c offset8

/-- BMI (R178): taken when N = 1. -/
def execBmi (offset8 : Byte) (s : State) : Result := s.branchIf s.flags.n offset8

/-- BPL (R179): taken when N = 0. -/
def execBpl (offset8 : Byte) (s : State) : Result := s.branchIf (!s.flags.n) offset8

/-- BVS (R180): taken when V = 1. -/
def execBvs (offset8 : Byte) (s : State) : Result := s.branchIf s.flags.v offset8

/-- BVC (R181): taken when V = 0. -/
def execBvc (offset8 : Byte) (s : State) : Result := s.branchIf (!s.flags.v) offset8

/-- BCS (R182): taken when C = 1. -/
def execBcs (offset8 : Byte) (s : State) : Result := s.branchIf s.flags.c offset8

/-- BCC (R183): taken when C = 0. -/
def execBcc (offset8 : Byte) (s : State) : Result := s.branchIf (!s.flags.c) offset8

/-- BGT (R184): taken when Z = 0 and N = V. -/
def execBgt (offset8 : Byte) (s : State) : Result := s.branchIf (!s.flags.z && s.flags.n == s.flags.v) offset8

/-- BLE (R185): taken when Z = 1 or N != V. -/
def execBle (offset8 : Byte) (s : State) : Result := s.branchIf (s.flags.z || s.flags.n != s.flags.v) offset8

/-- BHI (R186): taken when C = 1 and Z = 0. -/
def execBhi (offset8 : Byte) (s : State) : Result := s.branchIf (s.flags.c && !s.flags.z) offset8

/-- BLS (R187): taken when C = 0 or Z = 1. -/
def execBls (offset8 : Byte) (s : State) : Result := s.branchIf (!s.flags.c || s.flags.z) offset8

/-- J (R188). -/
def execJ (offset12 : BitVec 12) (s : State) : Result := .next (s.jumpTo (s.relative (jumpDisp offset12)))

/-- JR (R189): an odd target is taken as it is. -/
def execJr (rs : RegNum) (s : State) : Result := .next (s.jumpTo (s.readReg rs))

/-- JALR (R190): the target is read before the link is written. -/
def execJalr (rd rs : RegNum) (s : State) : Result := .next ((s.writeReg rd (s.pc + 2#16)).jumpTo (s.readReg rs))

end Sys2Proof.Machine
end

