-- ==== Sys2Proof/Machine/Extended.lean ====
section
/-! DEFINITION. Opcode 0xF (48_extended.md R311 to R326): two words, `pc + 4` next. Only CMPIX writes flags (R310). -/

namespace Sys2Proof.Machine

/-- ADDIX (R311). -/
def execAddix (rd rs1 : RegNum) (imm16 : Word) (s : State) : Result := s.finish rd (s.readReg rs1 + imm16) 4#16

/-- SUBIX (R312). -/
def execSubix (rd rs1 : RegNum) (imm16 : Word) (s : State) : Result := s.finish rd (s.readReg rs1 - imm16) 4#16

/-- ANDIX (R313). -/
def execAndix (rd rs1 : RegNum) (imm16 : Word) (s : State) : Result := s.finish rd (s.readReg rs1 &&& imm16) 4#16

/-- ORIX (R314). -/
def execOrix (rd rs1 : RegNum) (imm16 : Word) (s : State) : Result := s.finish rd (s.readReg rs1 ||| imm16) 4#16

/-- XORIX (R315). -/
def execXorix (rd rs1 : RegNum) (imm16 : Word) (s : State) : Result := s.finish rd (s.readReg rs1 ^^^ imm16) 4#16

/-- LWX (R316). -/
def execLwx (rd rs1 : RegNum) (imm16 : Word) (s : State) : Result := s.loadInto rd (s.ea rs1 imm16) 4#16

/-- SWX (R317): the value is the register in bits 11:8. -/
def execSwx (rd rs1 : RegNum) (imm16 : Word) (s : State) : Result := s.storeFrom (s.ea rs1 imm16) (s.readReg rd) 4#16

/-- LIX (R318). -/
def execLix (rd : RegNum) (imm16 : Word) (s : State) : Result := s.finish rd imm16 4#16

/-- JX (R319): an odd target is taken as it is. -/
def execJx (addr16 : Word) (s : State) : Result := .next (s.jumpTo addr16)

/-- JALX (R320): the link, `pc + 4`, goes to R1. -/
def execJalx (addr16 : Word) (s : State) : Result := .next ((s.writeReg regRA (s.pc + 4#16)).jumpTo addr16)

/-- CMPIX (R321): the flags of Rd - imm16, nothing stored. -/
def execCmpix (rd : RegNum) (imm16 : Word) (s : State) : Result :=
  .next ((s.setFlags (subFlags (s.readReg rd) imm16).2).advance 4#16)

/-- INX (R322). -/
def execInx (rd : RegNum) (port8 : Byte) (s : State) : Result := s.portInto rd port8 4#16

/-- OUTX (R323): the data register is Rs1. -/
def execOutx (rs1 : RegNum) (port8 : Byte) (s : State) : Result := s.portFrom port8 (s.readReg rs1) 4#16

/-- SLLX (R324): by 0 to 15. -/
def execSllx (rd rs1 : RegNum) (imm4 : Nibble) (s : State) : Result := s.finish rd (s.readReg rs1 <<< imm4.toNat) 4#16

/-- SRLX (R325): logical. -/
def execSrlx (rd rs1 : RegNum) (imm4 : Nibble) (s : State) : Result := s.finish rd (s.readReg rs1 >>> imm4.toNat) 4#16

/-- SRAX (R326): arithmetic. -/
def execSrax (rd rs1 : RegNum) (imm4 : Nibble) (s : State) : Result :=
  s.finish rd ((s.readReg rs1).sshiftRight imm4.toNat) 4#16

end Sys2Proof.Machine
end

