-- ==== Sys2Proof/Machine/Io.lean ====
section
/-! DEFINITION. Opcode 0xD (46_io.md R282 to R285): one port access each, no memory access, no flags (R280). -/

namespace Sys2Proof.Machine

/-- INI (R282): a read of port 0 to 15; a read into R0 is made and its answer discarded. -/
def execIni (rd : RegNum) (port : Nibble) (s : State) : Result := s.portInto rd (portOfNibble port) 2#16

/-- OUTI (R283): the data register is in bits 11:8. -/
def execOuti (rd : RegNum) (port : Nibble) (s : State) : Result := s.portFrom (portOfNibble port) (s.readReg rd) 2#16

/-- IN (R284): the port number is bits 7:0 of Rs1, read first. -/
def execInp (rd rs1 : RegNum) (s : State) : Result := s.portInto rd (s.portInReg rs1) 2#16

/-- OUT (R285): port number from Rs1, data from the register in bits 11:8. -/
def execOut (rd rs1 : RegNum) (s : State) : Result := s.portFrom (s.portInReg rs1) (s.readReg rd) 2#16

end Sys2Proof.Machine
end

