-- ==== Sys2Proof/Machine/LoadStore.lean ====
section
/-! DEFINITION. Opcodes 0x6 and 0x7 (41_load_store.md R142 to R158). No flags are written (R141). -/

namespace Sys2Proof.Machine

/-- LW Rd, (Rs1) (R142). -/
def execLw (rd rs1 : RegNum) (s : State) : Result := s.loadInto rd (s.ea rs1 0#16) 2#16

/-- LW Rd, 2(Rs1) (R145). -/
def execLwP2 (rd rs1 : RegNum) (s : State) : Result := s.loadInto rd (s.ea rs1 2#16) 2#16

/-- LW Rd, 4(Rs1) (R146). -/
def execLwP4 (rd rs1 : RegNum) (s : State) : Result := s.loadInto rd (s.ea rs1 4#16) 2#16

/-- LW Rd, 6(Rs1) (R147). -/
def execLwP6 (rd rs1 : RegNum) (s : State) : Result := s.loadInto rd (s.ea rs1 6#16) 2#16

/-- LW Rd, -2(Rs1) (R148). -/
def execLwM2 (rd rs1 : RegNum) (s : State) : Result := s.loadInto rd (s.ea rs1 (-2#16)) 2#16

/-- LW Rd, -4(Rs1) (R149). -/
def execLwM4 (rd rs1 : RegNum) (s : State) : Result := s.loadInto rd (s.ea rs1 (-4#16)) 2#16

/-- LB (R143): no alignment, sign-extended. -/
def execLb (rd rs1 : RegNum) (s : State) : Result := s.loadByteInto rd (s.ea rs1 0#16) (·.signExtend 16)

/-- LBU (R144): no alignment, zero-extended. -/
def execLbu (rd rs1 : RegNum) (s : State) : Result := s.loadByteInto rd (s.ea rs1 0#16) (·.zeroExtend 16)

/-- LUI (R150): the register shifted left by 8; no memory access. -/
def execLui (rd rs1 : RegNum) (s : State) : Result := s.finish rd (s.readReg rs1 <<< 8) 2#16

/-- SW (Rs1), Rs2 (R152). -/
def execSw (rs2 rs1 : RegNum) (s : State) : Result := s.storeFrom (s.ea rs1 0#16) (s.readReg rs2) 2#16

/-- SW 2(Rs1), Rs2 (R154). -/
def execSwP2 (rs2 rs1 : RegNum) (s : State) : Result := s.storeFrom (s.ea rs1 2#16) (s.readReg rs2) 2#16

/-- SW 4(Rs1), Rs2 (R155). -/
def execSwP4 (rs2 rs1 : RegNum) (s : State) : Result := s.storeFrom (s.ea rs1 4#16) (s.readReg rs2) 2#16

/-- SW 6(Rs1), Rs2 (R156). -/
def execSwP6 (rs2 rs1 : RegNum) (s : State) : Result := s.storeFrom (s.ea rs1 6#16) (s.readReg rs2) 2#16

/-- SW -2(Rs1), Rs2 (R157). -/
def execSwM2 (rs2 rs1 : RegNum) (s : State) : Result := s.storeFrom (s.ea rs1 (-2#16)) (s.readReg rs2) 2#16

/-- SW -4(Rs1), Rs2 (R158). -/
def execSwM4 (rs2 rs1 : RegNum) (s : State) : Result := s.storeFrom (s.ea rs1 (-4#16)) (s.readReg rs2) 2#16

/-- SB (R153): one byte, no alignment. -/
def execSb (rs2 rs1 : RegNum) (s : State) : Result := s.storeByteFrom (s.ea rs1 0#16) (s.readReg rs2).lowByte

end Sys2Proof.Machine
end

