-- ==== Sys2Proof/Machine/Misc.lean ====
section
/-! DEFINITION. Opcode 0xC (45_stack_misc.md R250 to R264). -/

namespace Sys2Proof.Machine

/-- PUSH (R250): the value is read before SP moves; on a stop SP stays. -/
def execPush (rs1 : RegNum) (s : State) : Result :=
  match s.storeWord s.pushSlot (s.readReg rs1) with
  | .ok t => .next ((t.writeReg regSP s.pushSlot).advance 2#16)
  | .error f => .fault f

/-- POP (R251): POP into SP stops (log 18), before the access (60_exceptions.md R342); POP into R0 still moves SP. -/
def execPop (rd : RegNum) (s : State) : Result :=
  if rd = regSP then .fault (.unspecified .popSp)
  else
    match s.loadWord (s.readReg regSP) with
    | .ok v => (s.writeReg regSP (s.readReg regSP + 2#16)).finish rd v 2#16
    | .error f => .fault f

/-- CMP (R252): the flags of Rd - Rs1, nothing stored. -/
def execCmp (rd rs1 : RegNum) (s : State) : Result :=
  .next ((s.setFlags (subFlags (s.readReg rd) (s.readReg rs1)).2).advance 2#16)

/-- TEST (R253): the flags of Rd & Rs1, C and V cleared, nothing stored. -/
def execTest (rd rs1 : RegNum) (s : State) : Result :=
  .next ((s.setFlags (andFlags (s.readReg rd &&& s.readReg rs1))).advance 2#16)

/-- MOV (R254). -/
def execMov (rd rs1 : RegNum) (s : State) : Result := s.finish rd (s.readReg rs1) 2#16

/-- LDI (R255): an encoding and no operation, `raise Unspecified(LDI)` (R256). Log 19. -/
def execLdi (_s : State) : Result := .fault (.unspecified .ldi)

/-- LDD (R257): an encoding and no operation, `raise Unspecified(LDD)` (R256). Log 19. -/
def execLdd (_s : State) : Result := .fault (.unspecified .ldd)

/-- LDIR (R258): an encoding and no operation, `raise Unspecified(LDIR)` (R256). Log 19. -/
def execLdir (_s : State) : Result := .fault (.unspecified .ldir)

/-- LDDR (R259): an encoding and no operation, `raise Unspecified(LDDR)` (R256). Log 19. -/
def execLddr (_s : State) : Result := .fault (.unspecified .lddr)

/-- CPIR (R260): an encoding and no operation, `raise Unspecified(CPIR)` (R256). Log 19. -/
def execCpir (_s : State) : Result := .fault (.unspecified .cpir)

/-- FILL (R262): an encoding and no operation, `raise Unspecified(FILL)` (R256). Log 19. -/
def execFill (_s : State) : Result := .fault (.unspecified .fill)

/-- EXX (R261). -/
def execExx (s : State) : Result := .next (s.swapAlternates.advance 2#16)

/-- GETF (R263): FLAGS, zero-extended; the unnamed bits are a fresh free value (log 10). -/
def execGetf (rd : RegNum) (s : State) : Result :=
  s.drawFree.finish rd ((flagsByte Config.flagsLayout s.flags s.i s.freeBits).zeroExtend 16) 2#16

/-- SETF (R264): bits 15:8 of the register are ignored. -/
def execSetf (rs1 : RegNum) (s : State) : Result := .next ((s.writeFlagsByte (s.readReg rs1).lowByte).advance 2#16)

end Sys2Proof.Machine
end

