-- ==== Sys2Proof/Machine/MulDiv.lean ====
section
/-! DEFINITION. Opcode 0xB (44_muldiv.md R230 to R239): rd is the first operand and the destination. No flags are
written (R230, R231). -/

namespace Sys2Proof.Machine

/-- Bits 31:16 of a 32-bit product (R230). -/
def upperHalf (p : BitVec 32) : Word := p.extractLsb' 16 16

/-- The quotient truncated toward zero, both operands signed (R231, R235). -/
def signedQuotient (p q : Word) : Word := BitVec.ofInt 16 (p.toInt.tdiv q.toInt)

/-- The remainder that goes with it, with the sign of the dividend or zero (R231, R237). -/
def signedRemainder (p q : Word) : Word := BitVec.ofInt 16 (p.toInt - q.toInt * p.toInt.tdiv q.toInt)

/-- Signed overflow: the true quotient +32768 is not representable (R231). -/
def divOverflows (p q : Word) : Bool := p == 0x8000#16 && q == 0xFFFF#16

/-- A signed division with its two corners (R231, R235, R237): their results are the OPEN parameters DIV_ZERO and
DIV_OVF, log 13. -/
def signedDivide (op : DivOp) (regular : Word → Word → Word) (p q : Word) : Word :=
  if q = 0#16 then Config.divZero op p
  else if divOverflows p q then Config.divOvf op
  else regular p q

/-- An unsigned division with its one corner (R231, R236, R238). -/
def unsignedDivide (op : DivOp) (regular : Word → Word → Word) (p q : Word) : Word :=
  if q = 0#16 then Config.divZero op p else regular p q

/-- MUL (R232): bits 15:0 of the product. -/
def execMul (rd rs1 : RegNum) (s : State) : Result := s.finish rd (s.readReg rd * s.readReg rs1) 2#16

/-- MULH (R233): bits 31:16 of the signed product. -/
def execMulh (rd rs1 : RegNum) (s : State) : Result :=
  s.finish rd (upperHalf (BitVec.ofInt 32 ((s.readReg rd).toInt * (s.readReg rs1).toInt))) 2#16

/-- MULHU (R234): bits 31:16 of the unsigned product. -/
def execMulhu (rd rs1 : RegNum) (s : State) : Result :=
  s.finish rd (upperHalf (BitVec.ofNat 32 ((s.readReg rd).toNat * (s.readReg rs1).toNat))) 2#16

/-- DIV (R235). -/
def execDiv (rd rs1 : RegNum) (s : State) : Result :=
  s.finish rd (signedDivide .div signedQuotient (s.readReg rd) (s.readReg rs1)) 2#16

/-- DIVU (R236). -/
def execDivu (rd rs1 : RegNum) (s : State) : Result :=
  s.finish rd (unsignedDivide .divu (fun p q => p / q) (s.readReg rd) (s.readReg rs1)) 2#16

/-- REM (R237). -/
def execRem (rd rs1 : RegNum) (s : State) : Result :=
  s.finish rd (signedDivide .rem signedRemainder (s.readReg rd) (s.readReg rs1)) 2#16

/-- REMU (R238). -/
def execRemu (rd rs1 : RegNum) (s : State) : Result :=
  s.finish rd (unsignedDivide .remu (fun p q => p % q) (s.readReg rd) (s.readReg rs1)) 2#16

/-- DAA (R239): the spec gives an encoding and no operation, `raise Unspecified(DAA)`. Log 19. -/
def execDaa (_rd : RegNum) (_s : State) : Result := .fault (.unspecified .daa)

end Sys2Proof.Machine
end

