-- ==== Sys2Proof/Machine/Shift.lean ====
section
/-! DEFINITION. Opcode 0xA (43_shift.md R200 to R217). Only RCL and RCR write a flag, C (R200). -/

namespace Sys2Proof.Machine

/-- SLL Rd, Rs1, 1 (R202). -/
def execSll1 (rd rs1 : RegNum) (s : State) : Result := s.finish rd (s.readReg rs1 <<< 1) 2#16

/-- SRL Rd, Rs1, 1 (R203). -/
def execSrl1 (rd rs1 : RegNum) (s : State) : Result := s.finish rd (s.readReg rs1 >>> 1) 2#16

/-- SRA Rd, Rs1, 1 (R204). -/
def execSra1 (rd rs1 : RegNum) (s : State) : Result := s.finish rd ((s.readReg rs1).sshiftRight 1) 2#16

/-- ROL Rd, Rs1, 1 (R205). -/
def execRol1 (rd rs1 : RegNum) (s : State) : Result := s.finish rd ((s.readReg rs1).rotateLeft 1) 2#16

/-- ROR Rd, Rs1, 1 (R208). -/
def execRor1 (rd rs1 : RegNum) (s : State) : Result := s.finish rd ((s.readReg rs1).rotateRight 1) 2#16

/-- RCL (R206): the 17-bit quantity C ++ v rotated left by one. -/
def execRcl (rd rs1 : RegNum) (s : State) : Result :=
  let v := s.readReg rs1
  (s.setCarry v.msb).finish rd (v.extractLsb' 0 15 ++ BitVec.ofBool s.flags.c) 2#16

/-- RCR (R207): the 17-bit quantity v ++ C rotated right by one. -/
def execRcr (rd rs1 : RegNum) (s : State) : Result :=
  let v := s.readReg rs1
  (s.setCarry (v.getLsbD 0)).finish rd (BitVec.ofBool s.flags.c ++ v.extractLsb' 1 15) 2#16

/-- SWAP (R209). -/
def execSwap (rd rs1 : RegNum) (s : State) : Result :=
  s.finish rd (Word.ofBytes (s.readReg rs1).lowByte (s.readReg rs1).highByte) 2#16

/-- SLL Rd, Rs1, 4 (R210). -/
def execSll4 (rd rs1 : RegNum) (s : State) : Result := s.finish rd (s.readReg rs1 <<< 4) 2#16

/-- SRL Rd, Rs1, 4 (R211). -/
def execSrl4 (rd rs1 : RegNum) (s : State) : Result := s.finish rd (s.readReg rs1 >>> 4) 2#16

/-- SRA Rd, Rs1, 4 (R212). -/
def execSra4 (rd rs1 : RegNum) (s : State) : Result := s.finish rd ((s.readReg rs1).sshiftRight 4) 2#16

/-- ROL Rd, Rs1, 4 (R217). -/
def execRol4 (rd rs1 : RegNum) (s : State) : Result := s.finish rd ((s.readReg rs1).rotateLeft 4) 2#16

/-- SLL Rd, Rs1, 8 (R213). -/
def execSll8 (rd rs1 : RegNum) (s : State) : Result := s.finish rd (s.readReg rs1 <<< 8) 2#16

/-- SRL Rd, Rs1, 8 (R214). -/
def execSrl8 (rd rs1 : RegNum) (s : State) : Result := s.finish rd (s.readReg rs1 >>> 8) 2#16

/-- SRA Rd, Rs1, 8 (R215). -/
def execSra8 (rd rs1 : RegNum) (s : State) : Result := s.finish rd ((s.readReg rs1).sshiftRight 8) 2#16

/-- ROL Rd, Rs1, 8 (R216). -/
def execRol8 (rd rs1 : RegNum) (s : State) : Result := s.finish rd ((s.readReg rs1).rotateLeft 8) 2#16

end Sys2Proof.Machine
end

