-- ==== Sys2Proof/Machine/System.lean ====
section
/-! DEFINITION. Opcode 0xE (47_system.md R290 to R299). One mode: nothing here is privileged (60_exceptions.md R350). -/

namespace Sys2Proof.Machine

/-- NOP (R290). -/
def execNop (s : State) : Result := .next (s.advance 2#16)

/-- HALT (R291): pc is advanced, then the core takes no further step. -/
def execHalt (s : State) : Result := .next (s.halt.advance 2#16)

/-- DI (R292). -/
def execDi (s : State) : Result := .next ((s.setIe false).advance 2#16)

/-- EI (R293). -/
def execEi (s : State) : Result := .next ((s.setIe true).advance 2#16)

/-- RETI (R294): what TRAP_MODEL says. Log 14. -/
def execReti (s : State) : Result := .next s.returnFromTrap

/-- SWI (R295): what TRAP_MODEL says, imm8 unsigned. Log 14. -/
def execSwi (imm8 : Byte) (s : State) : Result := .next (s.enterTrap imm8)

/-- SCF (R296). -/
def execScf (s : State) : Result := .next ((s.setCarry true).advance 2#16)

/-- CCF (R297). -/
def execCcf (s : State) : Result := .next ((s.setCarry (!s.flags.c)).advance 2#16)

/-- SEI (R298). -/
def execSei (s : State) : Result := .next ((s.setI true).advance 2#16)

/-- CLI (R299). -/
def execCli (s : State) : Result := .next ((s.setI false).advance 2#16)

end Sys2Proof.Machine
end

