-- ==== Sys2Proof/Machine/Dispatch.lean ====
section
/-! DEFINITION. The meaning of every instruction, one arm per constructor. -/

namespace Sys2Proof.Machine

def exec (i : Instr) (s : State) : Host.Outcome State Fault Refusal :=
  match i with
  | .add rd rs1 rs2 => Sys2Proof.Machine.execAdd rd rs1 rs2 s
  | .sub rd rs1 rs2 => Sys2Proof.Machine.execSub rd rs1 rs2 s
  | .and rd rs1 rs2 => Sys2Proof.Machine.execAnd rd rs1 rs2 s
  | .or rd rs1 rs2 => Sys2Proof.Machine.execOr rd rs1 rs2 s
  | .xor rd rs1 rs2 => Sys2Proof.Machine.execXor rd rs1 rs2 s
  | .addi rd imm8 => Sys2Proof.Machine.execAddi rd imm8 s
  | .lw rd rs1 => Sys2Proof.Machine.execLw rd rs1 s
  | .lb rd rs1 => Sys2Proof.Machine.execLb rd rs1 s
  | .lbu rd rs1 => Sys2Proof.Machine.execLbu rd rs1 s
  | .lwP2 rd rs1 => Sys2Proof.Machine.execLwP2 rd rs1 s
  | .lwP4 rd rs1 => Sys2Proof.Machine.execLwP4 rd rs1 s
  | .lwP6 rd rs1 => Sys2Proof.Machine.execLwP6 rd rs1 s
  | .lwM2 rd rs1 => Sys2Proof.Machine.execLwM2 rd rs1 s
  | .lwM4 rd rs1 => Sys2Proof.Machine.execLwM4 rd rs1 s
  | .lui rd rs1 => Sys2Proof.Machine.execLui rd rs1 s
  | .sw rs2 rs1 => Sys2Proof.Machine.execSw rs2 rs1 s
  | .sb rs2 rs1 => Sys2Proof.Machine.execSb rs2 rs1 s
  | .swP2 rs2 rs1 => Sys2Proof.Machine.execSwP2 rs2 rs1 s
  | .swP4 rs2 rs1 => Sys2Proof.Machine.execSwP4 rs2 rs1 s
  | .swP6 rs2 rs1 => Sys2Proof.Machine.execSwP6 rs2 rs1 s
  | .swM2 rs2 rs1 => Sys2Proof.Machine.execSwM2 rs2 rs1 s
  | .swM4 rs2 rs1 => Sys2Proof.Machine.execSwM4 rs2 rs1 s
  | .beq offset8 => Sys2Proof.Machine.execBeq offset8 s
  | .bne offset8 => Sys2Proof.Machine.execBne offset8 s
  | .blt offset8 => Sys2Proof.Machine.execBlt offset8 s
  | .bge offset8 => Sys2Proof.Machine.execBge offset8 s
  | .bltu offset8 => Sys2Proof.Machine.execBltu offset8 s
  | .bgeu offset8 => Sys2Proof.Machine.execBgeu offset8 s
  | .bmi offset8 => Sys2Proof.Machine.execBmi offset8 s
  | .bpl offset8 => Sys2Proof.Machine.execBpl offset8 s
  | .bvs offset8 => Sys2Proof.Machine.execBvs offset8 s
  | .bvc offset8 => Sys2Proof.Machine.execBvc offset8 s
  | .bcs offset8 => Sys2Proof.Machine.execBcs offset8 s
  | .bcc offset8 => Sys2Proof.Machine.execBcc offset8 s
  | .bgt offset8 => Sys2Proof.Machine.execBgt offset8 s
  | .ble offset8 => Sys2Proof.Machine.execBle offset8 s
  | .bhi offset8 => Sys2Proof.Machine.execBhi offset8 s
  | .bls offset8 => Sys2Proof.Machine.execBls offset8 s
  | .jalr rd rs => Sys2Proof.Machine.execJalr rd rs s
  | .jr rs => Sys2Proof.Machine.execJr rs s
  | .j offset12 => Sys2Proof.Machine.execJ offset12 s
  | .sll1 rd rs1 => Sys2Proof.Machine.execSll1 rd rs1 s
  | .srl1 rd rs1 => Sys2Proof.Machine.execSrl1 rd rs1 s
  | .sra1 rd rs1 => Sys2Proof.Machine.execSra1 rd rs1 s
  | .rol1 rd rs1 => Sys2Proof.Machine.execRol1 rd rs1 s
  | .ror1 rd rs1 => Sys2Proof.Machine.execRor1 rd rs1 s
  | .rcl rd rs1 => Sys2Proof.Machine.execRcl rd rs1 s
  | .rcr rd rs1 => Sys2Proof.Machine.execRcr rd rs1 s
  | .swap rd rs1 => Sys2Proof.Machine.execSwap rd rs1 s
  | .sll4 rd rs1 => Sys2Proof.Machine.execSll4 rd rs1 s
  | .srl4 rd rs1 => Sys2Proof.Machine.execSrl4 rd rs1 s
  | .sra4 rd rs1 => Sys2Proof.Machine.execSra4 rd rs1 s
  | .rol4 rd rs1 => Sys2Proof.Machine.execRol4 rd rs1 s
  | .sll8 rd rs1 => Sys2Proof.Machine.execSll8 rd rs1 s
  | .srl8 rd rs1 => Sys2Proof.Machine.execSrl8 rd rs1 s
  | .sra8 rd rs1 => Sys2Proof.Machine.execSra8 rd rs1 s
  | .rol8 rd rs1 => Sys2Proof.Machine.execRol8 rd rs1 s
  | .mul rd rs1 => Sys2Proof.Machine.execMul rd rs1 s
  | .mulh rd rs1 => Sys2Proof.Machine.execMulh rd rs1 s
  | .mulhu rd rs1 => Sys2Proof.Machine.execMulhu rd rs1 s
  | .div rd rs1 => Sys2Proof.Machine.execDiv rd rs1 s
  | .divu rd rs1 => Sys2Proof.Machine.execDivu rd rs1 s
  | .rem rd rs1 => Sys2Proof.Machine.execRem rd rs1 s
  | .remu rd rs1 => Sys2Proof.Machine.execRemu rd rs1 s
  | .daa rd => Sys2Proof.Machine.execDaa rd s
  | .push rs1 => Sys2Proof.Machine.execPush rs1 s
  | .pop rd => Sys2Proof.Machine.execPop rd s
  | .cmp rd rs1 => Sys2Proof.Machine.execCmp rd rs1 s
  | .test rd rs1 => Sys2Proof.Machine.execTest rd rs1 s
  | .mov rd rs1 => Sys2Proof.Machine.execMov rd rs1 s
  | .ldi => Sys2Proof.Machine.execLdi s
  | .ldd => Sys2Proof.Machine.execLdd s
  | .ldir => Sys2Proof.Machine.execLdir s
  | .lddr => Sys2Proof.Machine.execLddr s
  | .cpir => Sys2Proof.Machine.execCpir s
  | .fill => Sys2Proof.Machine.execFill s
  | .exx => Sys2Proof.Machine.execExx s
  | .getf rd => Sys2Proof.Machine.execGetf rd s
  | .setf rs1 => Sys2Proof.Machine.execSetf rs1 s
  | .ini rd port => Sys2Proof.Machine.execIni rd port s
  | .outi rd port => Sys2Proof.Machine.execOuti rd port s
  | .inp rd rs1 => Sys2Proof.Machine.execInp rd rs1 s
  | .out rd rs1 => Sys2Proof.Machine.execOut rd rs1 s
  | .nop => Sys2Proof.Machine.execNop s
  | .halt => Sys2Proof.Machine.execHalt s
  | .di => Sys2Proof.Machine.execDi s
  | .ei => Sys2Proof.Machine.execEi s
  | .reti => Sys2Proof.Machine.execReti s
  | .scf => Sys2Proof.Machine.execScf s
  | .ccf => Sys2Proof.Machine.execCcf s
  | .sei => Sys2Proof.Machine.execSei s
  | .cli => Sys2Proof.Machine.execCli s
  | .swi imm8 => Sys2Proof.Machine.execSwi imm8 s
  | .addix rd rs1 imm16 => Sys2Proof.Machine.execAddix rd rs1 imm16 s
  | .subix rd rs1 imm16 => Sys2Proof.Machine.execSubix rd rs1 imm16 s
  | .andix rd rs1 imm16 => Sys2Proof.Machine.execAndix rd rs1 imm16 s
  | .orix rd rs1 imm16 => Sys2Proof.Machine.execOrix rd rs1 imm16 s
  | .xorix rd rs1 imm16 => Sys2Proof.Machine.execXorix rd rs1 imm16 s
  | .lwx rd rs1 imm16 => Sys2Proof.Machine.execLwx rd rs1 imm16 s
  | .swx rd rs1 imm16 => Sys2Proof.Machine.execSwx rd rs1 imm16 s
  | .lix rd imm16 => Sys2Proof.Machine.execLix rd imm16 s
  | .jx addr16 => Sys2Proof.Machine.execJx addr16 s
  | .jalx addr16 => Sys2Proof.Machine.execJalx addr16 s
  | .cmpix rd imm16 => Sys2Proof.Machine.execCmpix rd imm16 s
  | .inx rd port8 => Sys2Proof.Machine.execInx rd port8 s
  | .outx rs1 port8 => Sys2Proof.Machine.execOutx rs1 port8 s
  | .sllx rd rs1 imm4 => Sys2Proof.Machine.execSllx rd rs1 imm4 s
  | .srlx rd rs1 imm4 => Sys2Proof.Machine.execSrlx rd rs1 imm4 s
  | .srax rd rs1 imm4 => Sys2Proof.Machine.execSrax rd rs1 imm4 s

end Sys2Proof.Machine
end

