-- ==== Sys2Proof/Machine/Step.lean ====
section
/-! DEFINITION. One step of the machine (10_state.md R36; 20_memory.md R57; 60_exceptions.md R342). -/

namespace Sys2Proof.Machine

/-- One step. A halted core takes none: its state is final and stays (10_state.md R29, R36; 60_exceptions.md R342
item 1), log 17. Otherwise fetch, decode, execute; a reserved word stops (30_encoding.md R105). -/
def step (s : State) : Host.Outcome State Fault Refusal :=
  if s.halted then .next s
  else
    match s.fetch with
    | .error f => .fault f
    | .ok (w0, w1) =>
      match decodeWords w0 w1 with
      | some i => exec i s
      | none => .fault (.illegalInstruction w0)

/-- The bytes at consecutive addresses, modulo 2^16, with no check. -/
def State.setBytes (s : State) (a : Word) (bytes : List Byte) : State :=
  match bytes with
  | [] => s
  | b :: rest => (s.setByte a b).setBytes (a + 1#16) rest

/-- `s` with an instruction stored at pc, where the next fetch reads it (20_memory.md R57): the four bytes of the
longest instruction, bits from `nbits` up 0. It stands for a program loaded from outside the machine, log 35. -/
def State.withFetchWord (s : State) (nbits w : Nat) : State := s.setBytes s.pc (tableBytes nbits w)

end Sys2Proof.Machine
end

