-- ==== Sys2Proof/Safety.lean ====
section
/-! DEFINITION. The terms claims use: what a safe run is, when an instruction completes, what a step leaves unchanged,
the invariant every step keeps, and the flags of an addition and a subtraction said over exact integers. -/

namespace Sys2Proof.Machine

/-- `n` steps from `s` meet no stop (00_scope.md R12): the run reaches a state. -/
def SafeFor (n : Nat) (s : State) : Prop := ∃ t, Host.Core.run core n s = .next t

/-- The instruction answers a next state, and that state has the property. -/
def Completes (i : Instr) (s : State) (P : State → Prop) : Prop := ∃ t, exec i s = .next t ∧ P t

/-- From `s` to `t` nothing changed but the registers `regs`, the bytes `bytes`, the port accesses `ports` (newest
first), the flags and the program counter. -/
structure Frame (s t : State) (regs : List RegNum) (bytes : List Word) (ports : List PortEvent) : Prop where
  regs : ∀ r, r ∉ regs → t.readReg r = s.readReg r
  alts : ∀ r, t.readAlt r = s.readAlt r
  bytes : ∀ a, a ∉ bytes → t.byteAt a = s.byteAt a
  ports : t.portTrace = ports ++ s.portTrace
  ie : t.ie = s.ie
  i : t.i = s.i
  halted : t.halted = s.halted
  memMap : t.memMap = s.memMap
  freeCount : t.freeCount = s.freeCount

/-- I and IE stand as I_FLAG_RELATION says (10_state.md R27). -/
def State.InterruptBitsRelated (s : State) : Prop := Config.iFlagRelation.iOf s.ie s.i = s.i

/-- The invariant of the machine: memory in its canonical form, and I related to IE. -/
def State.Inv (s : State) : Prop := s.mem.wf = true ∧ s.InterruptBitsRelated

/-- N and Z of a 16-bit result (40_alu.md R129): bit 15, and all bits 0. -/
def ResultFlags (f : Flags) (r : Word) : Prop := (f.n = true ↔ r.toInt < 0) ∧ (f.z = true ↔ r.toNat = 0)

/-- The flags of `a + b` over exact integers: C when the unsigned sum does not fit 16 bits, V when the signed one does
not (40_alu.md R129: "C is the unsigned carry (add)", "V is the signed overflow"). -/
def AdditionFlags (f : Flags) (a b : Word) : Prop :=
  ResultFlags f (a + b) ∧ (f.c = true ↔ 65535 < a.toNat + b.toNat) ∧
    (f.v = true ↔ (a + b).toInt ≠ a.toInt + b.toInt)

/-- The flags of `a - b` over exact integers: C when there is no borrow, V when the signed difference does not fit. -/
def SubtractionFlags (f : Flags) (a b : Word) : Prop :=
  ResultFlags f (a - b) ∧ (f.c = true ↔ b.toNat ≤ a.toNat) ∧ (f.v = true ↔ (a - b).toInt ≠ a.toInt - b.toInt)

/-- The flags as the number NZCV of 42_branch_jump.md R170's truth table. -/
def Flags.nzcv (f : Flags) : Nat := 8 * f.n.toNat + 4 * f.z.toNat + 2 * f.c.toNat + f.v.toNat

/-- What a trap model's effect makes of a state (60_exceptions.md R346): the last write to each place counts, R0 and
bytes that are not RAM keep what they hold, I keeps its relation to IE, nothing else changes. -/
structure TrapOutcome (s : State) (e : TrapEffect) (t : State) : Prop where
  pc : t.pc = e.pc
  flags : t.flags = e.flags
  ie : t.ie = e.ie
  i : t.i = Config.iFlagRelation.iOf e.ie e.i
  regs : ∀ r, t.readReg r = if r = 0#4 then 0#16 else e.regs.foldl (fun x w => if w.1 = r then w.2 else x) (s.readReg r)
  alts : ∀ r, t.readAlt r = if r = 0#4 then 0#16 else e.alts.foldl (fun x w => if w.1 = r then w.2 else x) (s.readAlt r)
  bytes : ∀ a, t.byteAt a =
    if s.kindAt a = .ram then e.bytes.foldl (fun x w => if w.1 = a then w.2 else x) (s.byteAt a) else s.byteAt a
  halted : t.halted = s.halted
  memMap : t.memMap = s.memMap
  portTrace : t.portTrace = s.portTrace
  freeCount : t.freeCount = s.freeCount

end Sys2Proof.Machine
end

