-- ==== Sys2Proof/Certificates/Slice0/Obligations.lean ====
section
/-! DEFINITION. The statements for the provers. Where a statement rests on a decision the spec marks as its own
([decision: D<n>]), an inference, or a choice of the model, its docstring says so and OBLIGATIONS.json gives it the
basis 'derived'. Everywhere: registers hardwired and discarded at R0 is D2 (log 20), address and pc arithmetic modulo
2^16 is D6 (log 22), "no flag is written" where the source is silent is D9 (log 24). -/

open Sys2Proof Sys2Proof.Machine

/-! ### Decoding and encoding -/

/-- 30_encoding.md R100, R101: decoding the canonical encoding of an instruction gives the instruction and leaves the
bytes after it, for every instruction the encoder accepts; and it accepts every well-formed one (R102, derived).
Rests on little-endian words (D3, log 21), J's priority (D11, log 26). -/
def Obligations.DecodeOfEncodeIsIdentity : Prop :=
  (∀ (i : Instr) (bs rest : List Byte), encode i = some bs → decode (bs ++ rest) = .ok (i, rest)) ∧
    ∀ i : Instr, i.wellFormed = true → ∃ bs, encode i = some bs

/-- 30_encoding.md R102 (derived): the encoder refuses J, and only J, at the offsets with bits 3:0 = 0x1 and at 0xF00,
0xF10, ..., 0xFF0; there are 272 of them. -/
def Obligations.EncoderRefusesExactlyTheCollidingJumps : Prop :=
  (∀ i : Instr, encode i = none ↔
      ∃ off : BitVec 12, i = .j off ∧ (off.toNat % 16 = 1 ∨ (0xF00 ≤ off.toNat ∧ off.toNat % 16 = 0))) ∧
    (∀ off : BitVec 12, ∃ i : Instr, decodeWords (0x9#4 ++ off) 0#16 = some i ∧ (i = .j off ↔ encode (.j off) ≠ none)) ∧
    ((List.range 4096).filter fun n => (encode (.j (BitVec.ofNat 12 n))).isNone).length = 272

/-- 30_encoding.md R104: the reserved first words are those of its list and no others (0xD func 0x4 to 0xF is derived
there); the second word never matters (R107). -/
def Obligations.ReservedWordsAreExactlyThoseListed : Prop :=
  ∀ w0 w1 : Word, decodeWords w0 w1 = none ↔
    (w0.toNat / 4096 = 0x6 ∧ 0x9 ≤ w0.toNat % 16) ∨ (w0.toNat / 4096 = 0x7 ∧ 0x7 ≤ w0.toNat % 16) ∨
    (w0.toNat / 4096 = 0xB ∧ 0x8 ≤ w0.toNat % 16) ∨ (w0.toNat / 4096 = 0xC ∧ 0xE ≤ w0.toNat % 16) ∨
    (w0.toNat / 4096 = 0xD ∧ 0x4 ≤ w0.toNat % 16) ∨ (w0.toNat / 4096 = 0xE ∧ 0xA ≤ w0.toNat / 256 % 16)

/-- 30_encoding.md R103, decision D12 (log 27): a word that selects the row `(match, mask)` decodes the same whatever
stands in the row's unused bits of the first and of the second word. -/
def Obligations.UnusedFieldsAreIgnored : Prop :=
  ∀ row ∈ ([(0xB007#16, 0xF00F#16, 0x00F0#16, 0x0000#16), (0xC000#16, 0xF00F#16, 0x0F00#16, 0x0000#16),
      (0xC001#16, 0xF00F#16, 0x00F0#16, 0x0000#16), (0xC005#16, 0xF00F#16, 0x0FF0#16, 0x0000#16),
      (0xC006#16, 0xF00F#16, 0x0FF0#16, 0x0000#16), (0xC007#16, 0xF00F#16, 0x0FF0#16, 0x0000#16),
      (0xC008#16, 0xF00F#16, 0x0FF0#16, 0x0000#16), (0xC009#16, 0xF00F#16, 0x0FF0#16, 0x0000#16),
      (0xC00A#16, 0xF00F#16, 0x0FF0#16, 0x0000#16), (0xC00B#16, 0xF00F#16, 0x0FF0#16, 0x0000#16),
      (0xC00C#16, 0xF00F#16, 0x00F0#16, 0x0000#16), (0xC00D#16, 0xF00F#16, 0x0F00#16, 0x0000#16),
      (0xE000#16, 0xFF00#16, 0x00FF#16, 0x0000#16), (0xE100#16, 0xFF00#16, 0x00FF#16, 0x0000#16),
      (0xE200#16, 0xFF00#16, 0x00FF#16, 0x0000#16), (0xE300#16, 0xFF00#16, 0x00FF#16, 0x0000#16),
      (0xE400#16, 0xFF00#16, 0x00FF#16, 0x0000#16), (0xE600#16, 0xFF00#16, 0x00FF#16, 0x0000#16),
      (0xE700#16, 0xFF00#16, 0x00FF#16, 0x0000#16), (0xE800#16, 0xFF00#16, 0x00FF#16, 0x0000#16),
      (0xE900#16, 0xFF00#16, 0x00FF#16, 0x0000#16), (0xF007#16, 0xF00F#16, 0x00F0#16, 0x0000#16),
      (0xF008#16, 0xF00F#16, 0x0FF0#16, 0x0000#16), (0xF009#16, 0xF00F#16, 0x0FF0#16, 0x0000#16),
      (0xF00A#16, 0xF00F#16, 0x00F0#16, 0x0000#16), (0xF00B#16, 0xF00F#16, 0x00F0#16, 0xFF00#16),
      (0xF00C#16, 0xF00F#16, 0x0F00#16, 0xFF00#16), (0xF00D#16, 0xF00F#16, 0x0000#16, 0xFFF0#16),
      (0xF00E#16, 0xF00F#16, 0x0000#16, 0xFFF0#16), (0xF00F#16, 0xF00F#16, 0x0000#16, 0xFFF0#16)] :
        List (Word × Word × Word × Word)),
    ∀ w0 w1 d0 d1 : Word, w0 &&& row.2.1 = row.1 →
      decodeWords (w0 ^^^ (d0 &&& row.2.2.1)) (w1 ^^^ (d1 &&& row.2.2.2)) = decodeWords w0 w1

/-- 30_encoding.md R101, decision D11 (log 26): opcode 0x9 decodes as JALR where bits 3:0 are 0x1, else as JR where bits
11:8 are 0xF and bits 3:0 are 0x0, else as J. -/
def Obligations.JumpOpcodeDecodesByPriority : Prop :=
  ∀ (d s f : Nibble) (w1 : Word),
    decodeWords (0x9#4 ++ d ++ s ++ f) w1 =
      if f = 0x1#4 then some (.jalr d s)
      else if d = 0xF#4 ∧ f = 0x0#4 then some (.jr s)
      else some (.j (d ++ s ++ f))

/-- 95_test_vectors.md E1 to E8, the words of the source's eight examples. A sanity statement. -/
def Obligations.SourceExampleWordsDecode : Prop :=
  decodeWords 0x0456#16 0#16 = some (.add 4#4 5#4 6#4) ∧ decodeWords 0x540A#16 0#16 = some (.addi 4#4 10#8) ∧
    decodeWords 0x6450#16 0#16 = some (.lw 4#4 5#4) ∧ decodeWords 0x8004#16 0#16 = some (.beq 4#8) ∧
    decodeWords 0x9FCE#16 0#16 = some (.j 0xFCE#12) ∧ decodeWords 0xC040#16 0#16 = some (.push 4#4) ∧
    decodeWords 0xF40B#16 0x0080#16 = some (.inx 4#4 0x80#8) ∧
    decodeWords 0xF407#16 0x1234#16 = some (.lix 4#4 0x1234#16)

/-- 30_encoding.md R80, R107: what is decoded is well formed, and is 4 bytes long exactly when the opcode is 0xF. -/
def Obligations.DecodedInstructionIsWellFormed : Prop :=
  ∀ (w0 w1 : Word) (i : Instr), decodeWords w0 w1 = some i →
    i.wellFormed = true ∧ i.lengthBytes = if w0.toNat / 4096 = 0xF then 4 else 2

/-! ### The step -/

/-- 10_state.md R36, 20_memory.md R57: when the four bytes at pc decode to `i`, the core is running, pc is even and the
bytes of `i` are populated, the step is the meaning of `i`, with nothing around it. -/
def Obligations.StepRunsTheDecodedInstruction : Prop :=
  ∀ (s : State) (i : Instr) (rest : List Byte), s.halted = false → isOdd s.pc = false →
    (∀ k < i.lengthBytes, s.readable (s.pc + BitVec.ofNat 16 k) = true) →
    decode [s.byteAt s.pc, s.byteAt (s.pc + 1#16), s.byteAt (s.pc + 2#16), s.byteAt (s.pc + 3#16)] = .ok (i, rest) →
    i.wellFormed = true → step s = exec i s

/-- 60_exceptions.md R342 items 2 to 5, decision D39 (log 33): the stops of the fetch and the decode, each where no
earlier one holds. The address Unpopulated reports is log 8's. -/
def Obligations.FetchStopsInOrder : Prop :=
  ∀ s : State, s.halted = false →
    (isOdd s.pc = true → step s = .fault (.misalignedFetch s.pc)) ∧
    (isOdd s.pc = false → (s.readable s.pc && s.readable (s.pc + 1#16)) = false →
      step s = .fault (.unpopulated s.pc)) ∧
    (isOdd s.pc = false → (s.readable s.pc && s.readable (s.pc + 1#16)) = true →
      (s.wordAt s.pc).toNat / 4096 = 0xF → (s.readable (s.pc + 2#16) && s.readable (s.pc + 3#16)) = false →
      step s = .fault (.unpopulated (s.pc + 2#16))) ∧
    (isOdd s.pc = false → (s.readable s.pc && s.readable (s.pc + 1#16)) = true →
      decodeWords (s.wordAt s.pc) 0#16 = none → step s = .fault (.illegalInstruction (s.wordAt s.pc)))

/-- 10_state.md R29: a halted core executes no instruction. That the model answers the same state is its choice
(log 17). -/
def Obligations.HaltedCoreStays : Prop := ∀ s : State, s.halted = true → step s = .next s

/-! ### Arithmetic and logic -/

/-- 40_alu.md R120, R123, R128: ADD and ADDI. Result and flags over exact integers (formulas D7, log 23). -/
def Obligations.AdditionWritesSumAndFlags : Prop :=
  ∀ (rd rs1 rs2 : RegNum) (imm8 : Byte) (s : State),
    ∀ p ∈ [(Instr.add rd rs1 rs2, s.readReg rs1, s.readReg rs2), (.addi rd imm8, s.readReg rd, imm8.signExtend 16)],
      Completes p.1 s fun t =>
        t.readReg rd = (if rd = 0#4 then 0#16 else p.2.1 + p.2.2) ∧ AdditionFlags t.flags p.2.1 p.2.2 ∧
          t.pc = s.pc + 2#16 ∧ Frame s t [rd] [] []

/-- 40_alu.md R121, R124, 45_stack_misc.md R252, 48_extended.md R321: SUB writes the difference and the flags, CMP and
CMPIX the flags alone (formulas D7, log 23). -/
def Obligations.SubtractionAndCompareWriteFlags : Prop :=
  ∀ (rd rs1 rs2 : RegNum) (imm16 : Word) (s : State),
    (Completes (.sub rd rs1 rs2) s fun t =>
      t.readReg rd = (if rd = 0#4 then 0#16 else s.readReg rs1 - s.readReg rs2) ∧
        SubtractionFlags t.flags (s.readReg rs1) (s.readReg rs2) ∧ t.pc = s.pc + 2#16 ∧ Frame s t [rd] [] []) ∧
    (Completes (.cmp rd rs1) s fun t =>
      SubtractionFlags t.flags (s.readReg rd) (s.readReg rs1) ∧ t.pc = s.pc + 2#16 ∧ Frame s t [] [] []) ∧
    (Completes (.cmpix rd imm16) s fun t =>
      SubtractionFlags t.flags (s.readReg rd) imm16 ∧ t.pc = s.pc + 4#16 ∧ Frame s t [] [] [])

/-- 40_alu.md R122, R125 to R127, 45_stack_misc.md R253: AND and TEST clear C and V, OR and XOR keep them (D8, log 23);
each result bit is that of the operands' bits. -/
def Obligations.LogicWritesResultAndFlags : Prop :=
  ∀ (rd rs1 rs2 : RegNum) (s : State),
    (∀ p ∈ [(Instr.and rd rs1 rs2, fun a b : Bool => a && b, false, false),
        (.or rd rs1 rs2, fun a b => a || b, s.flags.c, s.flags.v),
        (.xor rd rs1 rs2, fun a b => a != b, s.flags.c, s.flags.v)],
      Completes p.1 s fun t =>
        ∃ r : Word, (∀ k, r.getLsbD k = p.2.1 ((s.readReg rs1).getLsbD k) ((s.readReg rs2).getLsbD k)) ∧
          t.readReg rd = (if rd = 0#4 then 0#16 else r) ∧ ResultFlags t.flags r ∧ t.flags.c = p.2.2.1 ∧
          t.flags.v = p.2.2.2 ∧ t.pc = s.pc + 2#16 ∧ Frame s t [rd] [] []) ∧
    (Completes (.test rd rs1) s fun t =>
      ResultFlags t.flags (s.readReg rd &&& s.readReg rs1) ∧ t.flags.c = false ∧ t.flags.v = false ∧
        t.pc = s.pc + 2#16 ∧ Frame s t [] [] [])

/-- 45_stack_misc.md R254, 48_extended.md R311 to R315, R318: MOV, LIX and the extended arithmetic write their
destination and no flag (D9, log 24). -/
def Obligations.MovesAndImmediateArithmetic : Prop :=
  ∀ (rd rs1 : RegNum) (imm16 : Word) (s : State),
    ∀ p ∈ [(Instr.mov rd rs1, (s.readReg rs1).toNat, 2), (.lix rd imm16, imm16.toNat, 4),
        (.addix rd rs1 imm16, ((s.readReg rs1).toNat + imm16.toNat) % 65536, 4),
        (.subix rd rs1 imm16, ((s.readReg rs1).toNat + 65536 - imm16.toNat) % 65536, 4),
        (.andix rd rs1 imm16, (s.readReg rs1).toNat &&& imm16.toNat, 4),
        (.orix rd rs1 imm16, (s.readReg rs1).toNat ||| imm16.toNat, 4),
        (.xorix rd rs1 imm16, (s.readReg rs1).toNat ^^^ imm16.toNat, 4)],
      Completes p.1 s fun t =>
        (t.readReg rd).toNat = (if rd = 0#4 then 0 else p.2.1) ∧ t.flags = s.flags ∧
          t.pc = s.pc + BitVec.ofNat 16 p.2.2 ∧ Frame s t [rd] [] []

/-! ### Branches and jumps -/

/-- 42_branch_jump.md R171 and R170's truth table: bit k of each number is T in column NZCV = k. All sixteen cond values
decode. -/
def Obligations.BranchesFollowTheTruthTable : Prop :=
  ∀ (offset8 : Byte) (w1 : Word) (s : State),
    ∀ p ∈ [(0x0#4, Instr.beq offset8, 0xF0F0#16), (0x1#4, .bne offset8, 0x0F0F#16), (0x2#4, .blt offset8, 0x55AA#16),
        (0x3#4, .bge offset8, 0xAA55#16), (0x4#4, .bltu offset8, 0x3333#16), (0x5#4, .bgeu offset8, 0xCCCC#16),
        (0x6#4, .bmi offset8, 0xFF00#16), (0x7#4, .bpl offset8, 0x00FF#16), (0x8#4, .bvs offset8, 0xAAAA#16),
        (0x9#4, .bvc offset8, 0x5555#16), (0xA#4, .bcs offset8, 0xCCCC#16), (0xB#4, .bcc offset8, 0x3333#16),
        (0xC#4, .bgt offset8, 0x0A05#16), (0xD#4, .ble offset8, 0xF5FA#16), (0xE#4, .bhi offset8, 0x0C0C#16),
        (0xF#4, .bls offset8, 0xF3F3#16)],
      decodeWords (0x8#4 ++ p.1 ++ offset8) w1 = some p.2.1 ∧
        Completes p.2.1 s fun t =>
          t.pc = s.pc + 2#16 +
              (if p.2.2.getLsbD s.flags.nzcv then BitVec.ofInt 16 (2 * offset8.toInt) else 0#16) ∧
            t.flags = s.flags ∧ Frame s t [] [] []

/-- 42_branch_jump.md R170: after CMP, the branch is taken exactly when its words are true of the two operands (C after
a compare is derived in 40_alu.md R121, D7, log 23). -/
def Obligations.CompareThenBranchDecidesTheOrder : Prop :=
  ∀ (rd rs1 : RegNum) (offset8 : Byte) (s : State),
    Completes (.cmp rd rs1) s fun t =>
      ∀ p ∈ [(Instr.beq offset8, decide (s.readReg rd = s.readReg rs1)),
          (.bne offset8, decide (s.readReg rd ≠ s.readReg rs1)),
          (.blt offset8, decide ((s.readReg rd).toInt < (s.readReg rs1).toInt)),
          (.bge offset8, decide ((s.readReg rs1).toInt ≤ (s.readReg rd).toInt)),
          (.bgt offset8, decide ((s.readReg rs1).toInt < (s.readReg rd).toInt)),
          (.ble offset8, decide ((s.readReg rd).toInt ≤ (s.readReg rs1).toInt)),
          (.bltu offset8, decide ((s.readReg rd).toNat < (s.readReg rs1).toNat)),
          (.bgeu offset8, decide ((s.readReg rs1).toNat ≤ (s.readReg rd).toNat)),
          (.bhi offset8, decide ((s.readReg rs1).toNat < (s.readReg rd).toNat)),
          (.bls offset8, decide ((s.readReg rd).toNat ≤ (s.readReg rs1).toNat))],
        Completes p.1 t fun u =>
          u.pc = t.pc + 2#16 + (if p.2 then BitVec.ofInt 16 (2 * offset8.toInt) else 0#16)

/-- 42_branch_jump.md R188 to R190, 48_extended.md R319, R320: J, JR, JALR, JX, JALX. JALR reads its target before the
link is written (D10, log 25); an odd target is taken as it is (D5, log 32). -/
def Obligations.JumpsSetPcAndLink : Prop :=
  ∀ (rd rs : RegNum) (offset12 : BitVec 12) (addr16 : Word) (s : State),
    (Completes (.j offset12) s fun t =>
      t.pc = s.pc + 2#16 + BitVec.ofInt 16 (2 * offset12.toInt) ∧ t.flags = s.flags ∧ Frame s t [] [] []) ∧
    (Completes (.jr rs) s fun t => t.pc = s.readReg rs ∧ t.flags = s.flags ∧ Frame s t [] [] []) ∧
    (Completes (.jalr rd rs) s fun t =>
      t.pc = s.readReg rs ∧ t.readReg rd = (if rd = 0#4 then 0#16 else s.pc + 2#16) ∧ t.flags = s.flags ∧
        Frame s t [rd] [] []) ∧
    (Completes (.jx addr16) s fun t => t.pc = addr16 ∧ t.flags = s.flags ∧ Frame s t [] [] []) ∧
    (Completes (.jalx addr16) s fun t =>
      t.pc = addr16 ∧ t.readReg 1#4 = s.pc + 4#16 ∧ t.flags = s.flags ∧ Frame s t [1#4] [] [])

/-- 42_branch_jump.md R191: JR through the link register returns to the instruction after the call. -/
def Obligations.CallThenReturnComesBack : Prop :=
  ∀ (rd rs : RegNum) (addr16 : Word) (s : State),
    (Completes (.jalx addr16) s fun t => Completes (.jr 1#4) t fun u => u.pc = s.pc + 4#16) ∧
    (rd ≠ 0#4 → Completes (.jalr rd rs) s fun t => Completes (.jr rd) t fun u => u.pc = s.pc + 2#16)

/-! ### Loads and stores -/

/-- 41_load_store.md R142, R145 to R149, 48_extended.md R316: the word loads read `M[ea+1] ++ M[ea]` (little-endian, D3,
log 21) at base plus displacement, `ea` even and both bytes populated; no flag changes (D9, log 24). -/
def Obligations.WordLoadsReadLittleEndian : Prop :=
  ∀ (rd rs1 : RegNum) (imm16 : Word) (s : State),
    ∀ p ∈ [(Instr.lw rd rs1, 0#16, 2#16), (.lwP2 rd rs1, 2#16, 2#16), (.lwP4 rd rs1, 4#16, 2#16),
        (.lwP6 rd rs1, 6#16, 2#16), (.lwM2 rd rs1, 0xFFFE#16, 2#16), (.lwM4 rd rs1, 0xFFFC#16, 2#16),
        (.lwx rd rs1 imm16, imm16, 4#16)],
      isOdd (s.readReg rs1 + p.2.1) = false → s.readable (s.readReg rs1 + p.2.1) = true →
      s.readable (s.readReg rs1 + p.2.1 + 1#16) = true →
      Completes p.1 s fun t =>
        (t.readReg rd).toNat = (if rd = 0#4 then 0 else
          (s.byteAt (s.readReg rs1 + p.2.1)).toNat + 256 * (s.byteAt (s.readReg rs1 + p.2.1 + 1#16)).toNat) ∧
        t.flags = s.flags ∧ t.pc = s.pc + p.2.2 ∧ Frame s t [rd] [] []

/-- 41_load_store.md R143, R144: LB and LBU extend one byte, at any populated address. -/
def Obligations.ByteLoadsExtend : Prop :=
  ∀ (rd rs1 : RegNum) (s : State), s.readable (s.readReg rs1) = true →
    (Completes (.lb rd rs1) s fun t =>
      (t.readReg rd).toInt = (if rd = 0#4 then 0 else (s.byteAt (s.readReg rs1)).toInt) ∧ t.flags = s.flags ∧
        t.pc = s.pc + 2#16 ∧ Frame s t [rd] [] []) ∧
    (Completes (.lbu rd rs1) s fun t =>
      (t.readReg rd).toNat = (if rd = 0#4 then 0 else (s.byteAt (s.readReg rs1)).toNat) ∧ t.flags = s.flags ∧
        t.pc = s.pc + 2#16 ∧ Frame s t [rd] [] [])

/-- 41_load_store.md R152, R154 to R158, 48_extended.md R317: the word stores write the low byte at `ea` and the high
byte at `ea + 1`, `ea` even and both bytes RAM, and no other byte. Memory in its canonical form (log 6) is the
invariant StepKeepsTheInvariant states. -/
def Obligations.WordStoresWriteTwoBytes : Prop :=
  ∀ (rv rs1 : RegNum) (imm16 : Word) (s : State), s.mem.wf = true →
    ∀ p ∈ [(Instr.sw rv rs1, 0#16, 2#16), (.swP2 rv rs1, 2#16, 2#16), (.swP4 rv rs1, 4#16, 2#16),
        (.swP6 rv rs1, 6#16, 2#16), (.swM2 rv rs1, 0xFFFE#16, 2#16), (.swM4 rv rs1, 0xFFFC#16, 2#16),
        (.swx rv rs1 imm16, imm16, 4#16)],
      isOdd (s.readReg rs1 + p.2.1) = false → s.writable (s.readReg rs1 + p.2.1) = true →
      s.writable (s.readReg rs1 + p.2.1 + 1#16) = true →
      Completes p.1 s fun t =>
        (t.byteAt (s.readReg rs1 + p.2.1)).toNat = (s.readReg rv).toNat % 256 ∧
        (t.byteAt (s.readReg rs1 + p.2.1 + 1#16)).toNat = (s.readReg rv).toNat / 256 ∧
        t.flags = s.flags ∧ t.pc = s.pc + p.2.2 ∧
        Frame s t [] [s.readReg rs1 + p.2.1, s.readReg rs1 + p.2.1 + 1#16] []

/-- 41_load_store.md R153: SB writes bits 7:0 of the register to one RAM byte at any address. -/
def Obligations.ByteStoreWritesOneByte : Prop :=
  ∀ (rv rs1 : RegNum) (s : State), s.mem.wf = true → s.writable (s.readReg rs1) = true →
    Completes (.sb rv rs1) s fun t =>
      (t.byteAt (s.readReg rs1)).toNat = (s.readReg rv).toNat % 256 ∧ t.flags = s.flags ∧ t.pc = s.pc + 2#16 ∧
        Frame s t [] [s.readReg rs1] []

/-- 20_memory.md R61 (a), R69 (D3, D27, log 21, log 31): a load after a store returns what was stored, word after word,
byte after word and word after two bytes. -/
def Obligations.StoreThenLoadAgree : Prop :=
  ∀ (rv rw rb rc rd : RegNum) (s : State), s.mem.wf = true → rd ≠ 0#4 → isOdd (s.readReg rb) = false →
    s.writable (s.readReg rb) = true → s.writable (s.readReg rb + 1#16) = true →
    s.readReg rc = s.readReg rb + 1#16 →
    (Completes (.sw rv rb) s fun t =>
      (Completes (.lw rd rb) t fun u => u.readReg rd = s.readReg rv) ∧
      (Completes (.lbu rd rb) t fun u => (u.readReg rd).toNat = (s.readReg rv).toNat % 256) ∧
      (Completes (.lbu rd rc) t fun u => (u.readReg rd).toNat = (s.readReg rv).toNat / 256)) ∧
    (Completes (.sb rv rb) s fun t => Completes (.sb rw rc) t fun u => Completes (.lw rd rb) u fun x =>
      (x.readReg rd).toNat = (s.readReg rv).toNat % 256 + 256 * ((s.readReg rw).toNat % 256))

/-- 20_memory.md R55, decision D4 (log 32): every word access at an odd address stops, population or not; POP into SP
stops before that (60_exceptions.md R342). LB, LBU and SB never do. -/
def Obligations.OddWordAccessStops : Prop :=
  ∀ (r rs1 : RegNum) (imm16 : Word) (s : State),
    (∀ p ∈ [(Instr.lw r rs1, 0#16), (.lwP2 r rs1, 2#16), (.lwP4 r rs1, 4#16), (.lwP6 r rs1, 6#16),
        (.lwM2 r rs1, 0xFFFE#16), (.lwM4 r rs1, 0xFFFC#16), (.sw r rs1, 0#16), (.swP2 r rs1, 2#16),
        (.swP4 r rs1, 4#16), (.swP6 r rs1, 6#16), (.swM2 r rs1, 0xFFFE#16), (.swM4 r rs1, 0xFFFC#16),
        (.lwx r rs1 imm16, imm16), (.swx r rs1 imm16, imm16)],
      isOdd (s.readReg rs1 + p.2) = true → exec p.1 s = .fault (.misalignedAccess (s.readReg rs1 + p.2))) ∧
    (isOdd (s.readReg 2#4 - 2#16) = true → exec (.push r) s = .fault (.misalignedAccess (s.readReg 2#4 - 2#16))) ∧
    (isOdd (s.readReg 2#4) = true → r ≠ 2#4 → exec (.pop r) s = .fault (.misalignedAccess (s.readReg 2#4))) ∧
    (∀ f, exec (.lb r rs1) s ≠ .fault (.misalignedAccess f) ∧ exec (.lbu r rs1) s ≠ .fault (.misalignedAccess f) ∧
      exec (.sb r rs1) s ≠ .fault (.misalignedAccess f))

/-- 20_memory.md R52, R53, R59: an aligned access that touches an absent byte stops, and so does a store that touches
one that is not RAM. MEM_POPULATED is `memMap` (log 7), the address reported is the access's (log 8). -/
def Obligations.UnpopulatedAccessStops : Prop :=
  ∀ (r rs1 : RegNum) (imm16 : Word) (s : State),
    (∀ p ∈ [(Instr.lw r rs1, 0#16), (.lwP2 r rs1, 2#16), (.lwP4 r rs1, 4#16), (.lwP6 r rs1, 6#16),
        (.lwM2 r rs1, 0xFFFE#16), (.lwM4 r rs1, 0xFFFC#16), (.lwx r rs1 imm16, imm16)],
      isOdd (s.readReg rs1 + p.2) = false →
      (s.readable (s.readReg rs1 + p.2) && s.readable (s.readReg rs1 + p.2 + 1#16)) = false →
      exec p.1 s = .fault (.unpopulated (s.readReg rs1 + p.2))) ∧
    (∀ p ∈ [(Instr.sw r rs1, 0#16), (.swP2 r rs1, 2#16), (.swP4 r rs1, 4#16), (.swP6 r rs1, 6#16),
        (.swM2 r rs1, 0xFFFE#16), (.swM4 r rs1, 0xFFFC#16), (.swx r rs1 imm16, imm16)],
      isOdd (s.readReg rs1 + p.2) = false →
      (s.writable (s.readReg rs1 + p.2) && s.writable (s.readReg rs1 + p.2 + 1#16)) = false →
      exec p.1 s = .fault (.unpopulated (s.readReg rs1 + p.2))) ∧
    (s.readable (s.readReg rs1) = false → exec (.lb r rs1) s = .fault (.unpopulated (s.readReg rs1)) ∧
      exec (.lbu r rs1) s = .fault (.unpopulated (s.readReg rs1))) ∧
    (s.writable (s.readReg rs1) = false → exec (.sb r rs1) s = .fault (.unpopulated (s.readReg rs1))) ∧
    (isOdd (s.readReg 2#4 - 2#16) = false →
      (s.writable (s.readReg 2#4 - 2#16) && s.writable (s.readReg 2#4 - 2#16 + 1#16)) = false →
      exec (.push r) s = .fault (.unpopulated (s.readReg 2#4 - 2#16))) ∧
    (isOdd (s.readReg 2#4) = false → (s.readable (s.readReg 2#4) && s.readable (s.readReg 2#4 + 1#16)) = false →
      r ≠ 2#4 → exec (.pop r) s = .fault (.unpopulated (s.readReg 2#4)))

/-! ### Shifts, multiplication, division -/

/-- 43_shift.md R202 to R217 (func 0x8 to 0xF by D35, log 30), 41_load_store.md R150 (D18, log 29), 48_extended.md R324
to R326: bit by bit, where each bit of the result comes from. No flag changes (D9, log 24). -/
def Obligations.ShiftsMoveBits : Prop :=
  ∀ (rd rs1 : RegNum) (n : Nibble) (s : State),
    ∀ p ∈ [(Instr.sll1 rd rs1, 2#16, fun (v : Word) k => decide (1 ≤ k) && v.getLsbD (k - 1)),
        (.sll4 rd rs1, 2#16, fun v k => decide (4 ≤ k) && v.getLsbD (k - 4)),
        (.sll8 rd rs1, 2#16, fun v k => decide (8 ≤ k) && v.getLsbD (k - 8)),
        (.lui rd rs1, 2#16, fun v k => decide (8 ≤ k) && v.getLsbD (k - 8)),
        (.sllx rd rs1 n, 4#16, fun v k => decide (n.toNat ≤ k) && v.getLsbD (k - n.toNat)),
        (.srl1 rd rs1, 2#16, fun v k => v.getLsbD (k + 1)), (.srl4 rd rs1, 2#16, fun v k => v.getLsbD (k + 4)),
        (.srl8 rd rs1, 2#16, fun v k => v.getLsbD (k + 8)),
        (.srlx rd rs1 n, 4#16, fun v k => v.getLsbD (k + n.toNat)),
        (.sra1 rd rs1, 2#16, fun v k => v.getLsbD (min (k + 1) 15)),
        (.sra4 rd rs1, 2#16, fun v k => v.getLsbD (min (k + 4) 15)),
        (.sra8 rd rs1, 2#16, fun v k => v.getLsbD (min (k + 8) 15)),
        (.srax rd rs1 n, 4#16, fun v k => v.getLsbD (min (k + n.toNat) 15)),
        (.rol1 rd rs1, 2#16, fun v k => v.getLsbD ((k + 15) % 16)),
        (.rol4 rd rs1, 2#16, fun v k => v.getLsbD ((k + 12) % 16)),
        (.rol8 rd rs1, 2#16, fun v k => v.getLsbD ((k + 8) % 16)),
        (.swap rd rs1, 2#16, fun v k => v.getLsbD ((k + 8) % 16)),
        (.ror1 rd rs1, 2#16, fun v k => v.getLsbD ((k + 1) % 16))],
      Completes p.1 s fun t =>
        (∀ k < 16, (t.readReg rd).getLsbD k = (decide (rd ≠ 0#4) && p.2.2 (s.readReg rs1) k)) ∧
          t.flags = s.flags ∧ t.pc = s.pc + p.2.1 ∧ Frame s t [rd] [] []

/-- 43_shift.md R206, R207 (from general knowledge there, log 30): RCL and RCR rotate the 17-bit quantities C ++ v and
v ++ C by one; C is written for R0 too, N, Z and V never. -/
def Obligations.RotatesThroughCarry : Prop :=
  ∀ (rd rs1 : RegNum) (s : State),
    (Completes (.rcl rd rs1) s fun t =>
      ∃ r : Word, BitVec.ofBool t.flags.c ++ r = (BitVec.ofBool s.flags.c ++ s.readReg rs1).rotateLeft 1 ∧
        t.readReg rd = (if rd = 0#4 then 0#16 else r) ∧ t.flags = { s.flags with c := t.flags.c } ∧
        t.pc = s.pc + 2#16 ∧ Frame s t [rd] [] []) ∧
    (Completes (.rcr rd rs1) s fun t =>
      ∃ r : Word, r ++ BitVec.ofBool t.flags.c = (s.readReg rs1 ++ BitVec.ofBool s.flags.c).rotateRight 1 ∧
        t.readReg rd = (if rd = 0#4 then 0#16 else r) ∧ t.flags = { s.flags with c := t.flags.c } ∧
        t.pc = s.pc + 2#16 ∧ Frame s t [rd] [] [])

/-- 44_muldiv.md R232: MUL, its words and its effect: bits 15:0 of the unsigned product. For Rd = R0 the product is 0,
which is what R0 reads. -/
def Obligations.MulWritesTheLowHalf : Prop :=
  (∀ w0 w1 : Word, w0 &&& 0xF00F#16 = 0xB000#16 →
      decodeWords w0 w1 = some (.mul (w0.extractLsb' 8 4) (w0.extractLsb' 4 4))) ∧
    ∀ (rd rs1 : RegNum) (s : State),
      Completes (.mul rd rs1) s fun t =>
        (t.readReg rd).toNat = (s.readReg rd).toNat * (s.readReg rs1).toNat % 2 ^ 16 ∧ t.flags = s.flags ∧
          t.pc = s.pc + 2#16 ∧ Frame s t [rd] [] []

/-- 44_muldiv.md R230, R233, R234 (D16, log 28): MULHU and MULH write the upper half that completes MUL's lower half to
the 32-bit product, both operands unsigned or both signed. -/
def Obligations.HighHalvesCompleteTheProduct : Prop :=
  ∀ (rd rs1 : RegNum) (s : State),
    (Completes (.mulhu rd rs1) s fun t =>
      (s.readReg rd).toNat * (s.readReg rs1).toNat =
          65536 * (t.readReg rd).toNat + (s.readReg rd * s.readReg rs1).toNat ∧
        t.flags = s.flags ∧ t.pc = s.pc + 2#16 ∧ Frame s t [rd] [] []) ∧
    (Completes (.mulh rd rs1) s fun t =>
      (s.readReg rd).toInt * (s.readReg rs1).toInt =
          65536 * (t.readReg rd).toInt + ((s.readReg rd * s.readReg rs1).toNat : Int) ∧
        t.flags = s.flags ∧ t.pc = s.pc + 2#16 ∧ Frame s t [rd] [] [])

/-- 44_muldiv.md R231, R236, R238: DIVU and REMU with a divisor that is not 0. -/
def Obligations.UnsignedDivisionIsEuclidean : Prop :=
  ∀ (rd rs1 : RegNum) (s : State), (s.readReg rs1).toNat ≠ 0 →
    (Completes (.divu rd rs1) s fun t =>
      (t.readReg rd).toNat = (s.readReg rd).toNat / (s.readReg rs1).toNat ∧ t.flags = s.flags ∧
        t.pc = s.pc + 2#16 ∧ Frame s t [rd] [] []) ∧
    (Completes (.remu rd rs1) s fun t =>
      (t.readReg rd).toNat = (s.readReg rd).toNat % (s.readReg rs1).toNat ∧ t.flags = s.flags ∧
        t.pc = s.pc + 2#16 ∧ Frame s t [rd] [] [])

/-- 44_muldiv.md R231, R235, R237, decision D14 (log 28): away from the two corners DIV and REM answer the one pair with
p = quotient * q + remainder, |remainder| < |q|, and a remainder that is 0 or has the dividend's sign. -/
def Obligations.SignedDivisionTruncatesTowardZero : Prop :=
  ∀ (rd rs1 : RegNum) (s : State), (s.readReg rs1).toInt ≠ 0 →
    ¬((s.readReg rd).toInt = -32768 ∧ (s.readReg rs1).toInt = -1) →
    Completes (.div rd rs1) s fun t => Completes (.rem rd rs1) s fun u =>
      (s.readReg rd).toInt = (t.readReg rd).toInt * (s.readReg rs1).toInt + (u.readReg rd).toInt ∧
        (u.readReg rd).toInt.natAbs < (s.readReg rs1).toInt.natAbs ∧
        ((u.readReg rd).toInt = 0 ∨ ((u.readReg rd).toInt < 0 ↔ (s.readReg rd).toInt < 0)) ∧
        t.flags = s.flags ∧ t.pc = s.pc + 2#16 ∧ Frame s t [rd] [] [] ∧
        u.flags = s.flags ∧ u.pc = s.pc + 2#16 ∧ Frame s u [rd] [] []

/-- 44_muldiv.md R231 with DIV_ZERO and DIV_OVF set to any functions (log 13, the model's choice): a division by zero
and the signed overflow complete, Rd takes the parameter's value, everything else is as for other operands. -/
def Obligations.DivisionCornersWriteTheParameter : Prop :=
  ∀ (rd rs1 : RegNum) (s : State),
    (s.readReg rs1 = 0#16 →
      ∀ p ∈ [(Instr.div rd rs1, DivOp.div), (.divu rd rs1, .divu), (.rem rd rs1, .rem), (.remu rd rs1, .remu)],
        Completes p.1 s fun t =>
          t.readReg rd = (if rd = 0#4 then 0#16 else Config.divZero p.2 (s.readReg rd)) ∧ t.flags = s.flags ∧
            t.pc = s.pc + 2#16 ∧ Frame s t [rd] [] []) ∧
    (s.readReg rd = 0x8000#16 → s.readReg rs1 = 0xFFFF#16 →
      ∀ p ∈ [(Instr.div rd rs1, DivOp.div), (.rem rd rs1, .rem)],
        Completes p.1 s fun t =>
          t.readReg rd = Config.divOvf p.2 ∧ t.flags = s.flags ∧ t.pc = s.pc + 2#16 ∧ Frame s t [rd] [] [])

/-- 44_muldiv.md R239, 45_stack_misc.md R251, R255 to R262 (D17, D26, log 18, log 19): what has an encoding and no
operation stops, whatever the state. -/
def Obligations.OperationsWithoutMeaningStop : Prop :=
  ∀ (rd : RegNum) (s : State),
    exec (.daa rd) s = .fault (.unspecified .daa) ∧ exec .ldi s = .fault (.unspecified .ldi) ∧
      exec .ldd s = .fault (.unspecified .ldd) ∧ exec .ldir s = .fault (.unspecified .ldir) ∧
      exec .lddr s = .fault (.unspecified .lddr) ∧ exec .cpir s = .fault (.unspecified .cpir) ∧
      exec .fill s = .fault (.unspecified .fill) ∧ exec (.pop 2#4) s = .fault (.unspecified .popSp)

/-! ### The stack -/

/-- 45_stack_misc.md R250 (D17, log 25): PUSH stores the old value of its register, SP itself included, at SP - 2, and
leaves SP there; the slot even and RAM. -/
def Obligations.PushStoresBelowTheStack : Prop :=
  ∀ (rs1 : RegNum) (s : State), s.mem.wf = true → isOdd (s.readReg 2#4 - 2#16) = false →
    s.writable (s.readReg 2#4 - 2#16) = true → s.writable (s.readReg 2#4 - 2#16 + 1#16) = true →
    Completes (.push rs1) s fun t =>
      t.readReg 2#4 = s.readReg 2#4 - 2#16 ∧
        (t.byteAt (s.readReg 2#4 - 2#16)).toNat = (s.readReg rs1).toNat % 256 ∧
        (t.byteAt (s.readReg 2#4 - 2#16 + 1#16)).toNat = (s.readReg rs1).toNat / 256 ∧
        t.flags = s.flags ∧ t.pc = s.pc + 2#16 ∧
        Frame s t [2#4] [s.readReg 2#4 - 2#16, s.readReg 2#4 - 2#16 + 1#16] []

/-- 45_stack_misc.md R251: POP into any register but SP loads the word at SP and adds 2 to SP, for R0 too; memory stays. -/
def Obligations.PopLoadsAndRaisesTheStack : Prop :=
  ∀ (rd : RegNum) (s : State), rd ≠ 2#4 → isOdd (s.readReg 2#4) = false → s.readable (s.readReg 2#4) = true →
    s.readable (s.readReg 2#4 + 1#16) = true →
    Completes (.pop rd) s fun t =>
      (t.readReg rd).toNat = (if rd = 0#4 then 0 else
        (s.byteAt (s.readReg 2#4)).toNat + 256 * (s.byteAt (s.readReg 2#4 + 1#16)).toNat) ∧
      t.readReg 2#4 = s.readReg 2#4 + 2#16 ∧ t.flags = s.flags ∧ t.pc = s.pc + 2#16 ∧ Frame s t [rd, 2#4] [] []

/-- 45_stack_misc.md R251: "PUSH Ra; POP Rb" leaves Ra's value in Rb and SP as before. -/
def Obligations.PushThenPopRestores : Prop :=
  ∀ (ra rb : RegNum) (s : State), s.mem.wf = true → rb ≠ 2#4 → isOdd (s.readReg 2#4) = false →
    s.writable (s.readReg 2#4 - 2#16) = true → s.writable (s.readReg 2#4 - 2#16 + 1#16) = true →
    Completes (.push ra) s fun t => Completes (.pop rb) t fun u =>
      u.readReg rb = (if rb = 0#4 then 0#16 else s.readReg ra) ∧ u.flags = s.flags ∧ u.pc = s.pc + 4#16 ∧
        Frame s u [rb] [s.readReg 2#4 - 2#16, s.readReg 2#4 - 2#16 + 1#16] []

/-! ### Alternate registers and FLAGS -/

/-- 45_stack_misc.md R261, for every EXX_SET (log 12): the registers of the set change places with their alternates, all
at once, the others and R0 stay. -/
def Obligations.ExxExchangesTheSet : Prop :=
  ∀ s : State, Completes .exx s fun t =>
    (∀ r, t.readReg r = if Config.inExxSet r then s.readAlt r else s.readReg r) ∧
      (∀ r, t.readAlt r = if Config.inExxSet r then s.readReg r else s.readAlt r) ∧ t.readReg 0#4 = 0#16 ∧
      t.flags = s.flags ∧ t.pc = s.pc + 2#16 ∧ (∀ a, t.byteAt a = s.byteAt a) ∧ t.ie = s.ie ∧ t.i = s.i ∧
      t.halted = s.halted ∧ t.portTrace = s.portTrace ∧ t.memMap = s.memMap ∧ t.freeCount = s.freeCount

/-- 45_stack_misc.md R261: two EXX in a row restore every register and every alternate. -/
def Obligations.ExxTwiceRestores : Prop :=
  ∀ s : State, Completes .exx s fun t => Completes .exx t fun u =>
    u.regs = s.regs ∧ u.alt = s.alt ∧ u.pc = s.pc + 4#16

/-- 45_stack_misc.md R263, for every FLAGS_LAYOUT (D20, log 9): GETF reads each named flag at its place, bits 15:8 are 0,
no flag changes. What the unnamed bits read is free (log 10): the model draws a new value each time. -/
def Obligations.GetfReadsTheNamedBits : Prop :=
  ∀ (rd : RegNum) (s : State), Completes (.getf rd) s fun t =>
    (rd ≠ 0#4 →
      (t.readReg rd).getLsbD Config.flagsLayout.posN = s.flags.n ∧
      (t.readReg rd).getLsbD Config.flagsLayout.posZ = s.flags.z ∧
      (t.readReg rd).getLsbD Config.flagsLayout.posC = s.flags.c ∧
      (t.readReg rd).getLsbD Config.flagsLayout.posV = s.flags.v ∧
      match Config.flagsLayout.posI with
      | some k => (t.readReg rd).getLsbD k = s.i
      | none => True) ∧
    (t.readReg rd).toNat < 256 ∧ t.flags = s.flags ∧ t.pc = s.pc + 2#16 ∧
    (∀ r, r ≠ rd → t.readReg r = s.readReg r) ∧ t.readReg 0#4 = 0#16 ∧ t.alt = s.alt ∧ t.mem = s.mem ∧ t.ie = s.ie ∧
    t.i = s.i ∧ t.halted = s.halted ∧ t.portTrace = s.portTrace ∧ t.memMap = s.memMap ∧
    t.freeCount = s.freeCount + 1

/-- 45_stack_misc.md R264, for every FLAGS_LAYOUT and I_FLAG_RELATION (D20, D21, log 9, log 11): SETF takes each named
flag from its place in bits 7:0; I and IE change only where the layout names I, IE as the relation says. -/
def Obligations.SetfWritesTheNamedBits : Prop :=
  ∀ (rs1 : RegNum) (s : State), Completes (.setf rs1) s fun t =>
    t.flags.n = (s.readReg rs1).getLsbD Config.flagsLayout.posN ∧
    t.flags.z = (s.readReg rs1).getLsbD Config.flagsLayout.posZ ∧
    t.flags.c = (s.readReg rs1).getLsbD Config.flagsLayout.posC ∧
    t.flags.v = (s.readReg rs1).getLsbD Config.flagsLayout.posV ∧
    (match Config.flagsLayout.posI with
      | some k =>
        t.i = (s.readReg rs1).getLsbD k ∧ t.ie = Config.iFlagRelation.ieOf ((s.readReg rs1).getLsbD k) s.ie
      | none => t.i = s.i ∧ t.ie = s.ie) ∧
    t.pc = s.pc + 2#16 ∧ t.regs = s.regs ∧ t.alt = s.alt ∧ t.mem = s.mem ∧ t.halted = s.halted ∧
    t.portTrace = s.portTrace ∧ t.memMap = s.memMap ∧ t.freeCount = s.freeCount

/-- 45_stack_misc.md R263: "GETF Ra; SETF Ra" leaves N, Z, C, V as they were, for every layout and whatever the free bits
are; with I and IE related (R27), those too. -/
def Obligations.GetfThenSetfKeepsTheFlags : Prop :=
  ∀ (ra : RegNum) (s : State), ra ≠ 0#4 →
    Completes (.getf ra) s fun t => Completes (.setf ra) t fun u =>
      u.flags = s.flags ∧ (s.InterruptBitsRelated → u.i = s.i ∧ u.ie = s.ie)

/-! ### Ports -/

/-- 46_io.md R282, R284, 48_extended.md R322 (D19, log 16): an input makes one read of its port, Rd takes the platform's
answer, all 16 bits, and R0 discards it; the answer is free. No flag, no memory. -/
def Obligations.PortInputsReadOnce : Prop :=
  ∀ (rd rs1 : RegNum) (port4 : Nibble) (port8 : Byte) (s : State),
    ∀ p ∈ [(Instr.ini rd port4, port4.toNat, 2#16), (.inp rd rs1, (s.readReg rs1).toNat % 256, 2#16),
        (.inx rd port8, port8.toNat, 4#16)],
      Completes p.1 s fun t =>
        t.readReg rd = (if rd = 0#4 then 0#16 else Config.portAnswer s.portTrace (BitVec.ofNat 8 p.2.1)) ∧
          t.flags = s.flags ∧ t.pc = s.pc + p.2.2 ∧
          Frame s t [rd] [] [.read (BitVec.ofNat 8 p.2.1) (Config.portAnswer s.portTrace (BitVec.ofNat 8 p.2.1))]

/-- 46_io.md R283, R285, 48_extended.md R323 (D19, log 16): an output hands all 16 bits of its data register to its port,
once; nothing else changes. -/
def Obligations.PortOutputsWriteOnce : Prop :=
  ∀ (rv rs1 : RegNum) (port4 : Nibble) (port8 : Byte) (s : State),
    ∀ p ∈ [(Instr.outi rv port4, port4.toNat, 2#16), (.out rv rs1, (s.readReg rs1).toNat % 256, 2#16),
        (.outx rv port8, port8.toNat, 4#16)],
      Completes p.1 s fun t =>
        t.flags = s.flags ∧ t.pc = s.pc + p.2.2 ∧
          Frame s t [] [] [.write (BitVec.ofNat 8 p.2.1) (s.readReg rv)]

/-! ### System instructions -/

/-- 47_system.md R290: NOP, its words and its effect; 0x0000 is not NOP. -/
def Obligations.NopOnlyAdvances : Prop :=
  (∀ w0 w1 : Word, w0 &&& 0xFF00#16 = 0xE000#16 → decodeWords w0 w1 = some .nop) ∧
    (∀ w1 : Word, decodeWords 0x0000#16 w1 = some (.add 0#4 0#4 0#4)) ∧
    ∀ s : State, exec .nop s = .next { s with pc := s.pc + 2#16 }

/-- 47_system.md R296, R297: SCF and CCF, their words and their effect; "SCF; CCF" and "AND R0, R0, R0" clear C. No
instruction of their opcode clears carry whatever the state; RETI and SWI, which are TRAP_MODEL's (log 14), are left out
of that clause. -/
def Obligations.CarryInstructions : Prop :=
  (∀ w0 w1 : Word, w0 &&& 0xFF00#16 = 0xE600#16 → decodeWords w0 w1 = some .scf) ∧
    (∀ w0 w1 : Word, w0 &&& 0xFF00#16 = 0xE700#16 → decodeWords w0 w1 = some .ccf) ∧
    (∀ (w0 w1 : Word) (i : Instr), w0 &&& 0xF000#16 = 0xE000#16 → decodeWords w0 w1 = some i → i ≠ .reti →
      (∀ imm8, i ≠ .swi imm8) → ∃ s : State, Completes i s fun t => t.flags.c = true) ∧
    ∀ s : State,
      (Completes .scf s fun t => t = { s with pc := s.pc + 2#16, flags := { s.flags with c := true } } ∧
        Completes .ccf t fun u => u.flags = { s.flags with c := false }) ∧
      (Completes .ccf s fun t => t = { s with pc := s.pc + 2#16, flags := { s.flags with c := !s.flags.c } }) ∧
      (Completes (.and 0#4 0#4 0#4) s fun t => t.flags = { n := false, z := true, c := false, v := false })

/-- 47_system.md R291, 10_state.md R29 (D24, log 39): HALT advances pc and sets `halted`, nothing else; from there every
further step stays. -/
def Obligations.HaltIsFinal : Prop :=
  ∀ s : State, Completes .halt s fun t =>
    t = { s with pc := s.pc + 2#16, halted := true } ∧ ∀ n, Host.Core.run core n t = .next t

/-- 47_system.md R292, R293, R298, R299, for every I_FLAG_RELATION (D21, log 11). -/
def Obligations.InterruptBitInstructions : Prop :=
  ∀ s : State,
    (∀ p ∈ [(Instr.di, false), (.ei, true)], Completes p.1 s fun t =>
      t.ie = p.2 ∧
        t.i = (match Config.iFlagRelation with
          | .same => p.2
          | .inverted => !p.2
          | .separate => s.i) ∧
        t = { s with pc := s.pc + 2#16, ie := t.ie, i := t.i }) ∧
    (∀ p ∈ [(Instr.cli, false), (.sei, true)], Completes p.1 s fun t =>
      t.i = p.2 ∧
        t.ie = (match Config.iFlagRelation with
          | .same => p.2
          | .inverted => !p.2
          | .separate => s.ie) ∧
        t = { s with pc := s.pc + 2#16, ie := t.ie, i := t.i })

/-- 47_system.md R294, R295, 60_exceptions.md R346, for every TRAP_MODEL of the form log 14 gives it (the model's
choice): SWI and RETI do what it says and nothing else. -/
def Obligations.TrapsFollowTheTrapModel : Prop :=
  ∀ (imm8 : Byte) (s : State), s.mem.wf = true →
    Completes (.swi imm8) s (TrapOutcome s (Config.trapSwi s imm8)) ∧
      Completes .reti s (TrapOutcome s (Config.trapReti s))

/-! ### Reset and invariants -/

/-- 10_state.md R34: R0 reads 0 and `halted` is 0. The other values are the model's choice (log 1 to 7): pc, registers,
alternates and flags 0, IE 0, all addresses RAM reading 0, no port access yet. -/
def Obligations.ResetStateValues : Prop :=
  State.reset.halted = false ∧ (∀ r, State.reset.readReg r = 0#16) ∧ (∀ r, State.reset.readAlt r = 0#16) ∧
    State.reset.pc = 0#16 ∧ State.reset.flags.nzcv = 0 ∧ State.reset.ie = false ∧
    (∀ a, State.reset.kindAt a = .ram ∧ State.reset.byteAt a = 0#8) ∧ State.reset.portTrace = []

/-- The invariant holds at reset: memory canonical (log 6), I related to IE (10_state.md R27, log 5). -/
def Obligations.ResetHasTheInvariant : Prop := State.reset.Inv

/-- Every step keeps the invariant: memory stays canonical (log 6), and I and IE stay as I_FLAG_RELATION says
(10_state.md R27, log 11), from every state that has it. -/
def Obligations.StepKeepsTheInvariant : Prop := ∀ s t : State, s.Inv → step s = .next t → t.Inv

/-- 20_memory.md R53, R59: no step changes what backs an address (log 7) or a byte that is not RAM. For SWI and RETI this
is the model's choice (log 15). -/
def Obligations.StepNeverChangesWhatIsNotRam : Prop :=
  ∀ s t : State, step s = .next t →
    t.memMap = s.memMap ∧ ∀ a, s.kindAt a ≠ .ram → t.byteAt a = s.byteAt a

/-- 20_memory.md R68: a step makes one port access if it runs a port instruction, a read for INI, IN and INX and a write
for OUTI, OUT and OUTX, and none if the core is halted or it runs any other instruction; earlier accesses stay as they
were. That SWI and RETI make none is the model's choice (log 14), and so is the step of a halted core (log 17). -/
def Obligations.StepMakesAtMostOnePortAccess : Prop :=
  ∀ s t : State, step s = .next t →
    (s.halted = true ∧ t.portTrace = s.portTrace) ∨
      (∃ w0 w1 i, s.halted = false ∧ s.fetch = .ok (w0, w1) ∧ decodeWords w0 w1 = some i ∧
        (∀ rd q, i ≠ .ini rd q) ∧ (∀ rd rs1, i ≠ .inp rd rs1) ∧ (∀ rd q, i ≠ .inx rd q) ∧ (∀ rv q, i ≠ .outi rv q) ∧
        (∀ rv rs1, i ≠ .out rv rs1) ∧ (∀ rv q, i ≠ .outx rv q) ∧ t.portTrace = s.portTrace) ∨
      ∃ w0 w1 i e, s.halted = false ∧ s.fetch = .ok (w0, w1) ∧ decodeWords w0 w1 = some i ∧
        t.portTrace = e :: s.portTrace ∧ ((∃ p v, e = .read p v ∧ v = Config.portAnswer s.portTrace p ∧
            ((∃ rd q, i = .ini rd q) ∨ (∃ rd rs1, i = .inp rd rs1) ∨ ∃ rd q, i = .inx rd q)) ∨
          (∃ p v, e = .write p v ∧ ((∃ rd q, i = .outi rd q) ∨ (∃ rd rs1, i = .out rd rs1) ∨ ∃ rs1 q, i = .outx rs1 q)))

/-- 10_state.md R35 (D9, log 24): no instruction outside the table's rows that write a flag changes any; SWI and RETI
are TRAP_MODEL's. -/
def Obligations.OnlyListedInstructionsChangeFlags : Prop :=
  ∀ (i : Instr) (s t : State), exec i s = .next t → t.flags ≠ s.flags →
    (∃ rd rs1 rs2, i = .add rd rs1 rs2 ∨ i = .sub rd rs1 rs2 ∨ i = .and rd rs1 rs2 ∨ i = .or rd rs1 rs2 ∨
      i = .xor rd rs1 rs2) ∨
    (∃ rd imm8, i = .addi rd imm8) ∨ (∃ rd rs1, i = .cmp rd rs1 ∨ i = .test rd rs1 ∨ i = .rcl rd rs1 ∨ i = .rcr rd rs1) ∨
    (∃ rd imm16, i = .cmpix rd imm16) ∨ (∃ rs1, i = .setf rs1) ∨ i = .scf ∨ i = .ccf ∨ i = .reti ∨
    ∃ imm8, i = .swi imm8

/-- 10_state.md R30, 20_memory.md R60: only a store, PUSH, or a trap model's SWI and RETI change a byte
of memory; and the byte changed is one of the two at the instruction's address (the one, for SB). -/
def Obligations.OnlyStoringInstructionsChangeMemory : Prop :=
  ∀ (i : Instr) (s t : State) (a : Word), exec i s = .next t → t.byteAt a ≠ s.byteAt a →
    (∃ rv rs1 imm16 d, (i, d) ∈ [(Instr.sw rv rs1, 0#16), (.swP2 rv rs1, 2#16), (.swP4 rv rs1, 4#16),
        (.swP6 rv rs1, 6#16), (.swM2 rv rs1, 0xFFFE#16), (.swM4 rv rs1, 0xFFFC#16), (.swx rv rs1 imm16, imm16)] ∧
      (a = s.readReg rs1 + d ∨ a = s.readReg rs1 + d + 1#16)) ∨
    (∃ rv rs1, i = .sb rv rs1 ∧ a = s.readReg rs1) ∨
    (∃ rs1, i = .push rs1 ∧ (a = s.readReg 2#4 - 2#16 ∨ a = s.readReg 2#4 - 2#16 + 1#16)) ∨
    i = .reti ∨ ∃ imm8, i = .swi imm8

/-- 10_state.md R24, 42_branch_jump.md R192: from an even pc only JR, JALR, JX, JALX and a trap model reach an odd one. -/
def Obligations.OddPcComesOnlyFromRegisterAndAbsoluteJumps : Prop :=
  ∀ (i : Instr) (s t : State), exec i s = .next t → isOdd s.pc = false → isOdd t.pc = true →
    (∃ rs, i = .jr rs) ∨ (∃ rd rs, i = .jalr rd rs) ∨ (∃ a, i = .jx a ∨ i = .jalx a) ∨ i = .reti ∨
      ∃ imm8, i = .swi imm8

/-- 10_state.md R28, R29: only HALT changes `halted`, and only EXX and a trap model change an alternate register. That
SWI and RETI leave `halted` is the model's choice: log 14 gives a trap model's effect no place for it. -/
def Obligations.OnlyHaltHaltsAndOnlyExxExchanges : Prop :=
  ∀ (i : Instr) (s t : State), exec i s = .next t →
    (i ≠ .halt → t.halted = s.halted) ∧
      (i ≠ .exx → i ≠ .reti → (∀ imm8, i ≠ .swi imm8) → t.alt = s.alt)

/-- 60_exceptions.md R341, with its parameters set (log 9, 12, 13, 14): which instruction can raise which stop and on what
condition, and that no instruction is refused. Unpopulated, at the address of the access (log 8), needs a byte of the
access that is absent or, for a store, not RAM (20_memory.md R59; MEM_POPULATED is `memMap`, log 7). -/
def Obligations.StopsAreThoseOfTheTable : Prop :=
  ∀ (i : Instr) (s : State),
    (∀ r, exec i s ≠ .refused r) ∧ (∀ a, exec i s ≠ .fault (.misalignedFetch a)) ∧
      (∀ w, exec i s ≠ .fault (.illegalInstruction w)) ∧
      (∀ a, exec i s = .fault (.misalignedAccess a) → isOdd a = true ∧
        ∃ r rs1 imm16, i ∈ [Instr.lw r rs1, .lwP2 r rs1, .lwP4 r rs1, .lwP6 r rs1, .lwM2 r rs1, .lwM4 r rs1, .sw r rs1,
          .swP2 r rs1, .swP4 r rs1, .swP6 r rs1, .swM2 r rs1, .swM4 r rs1, .lwx r rs1 imm16, .swx r rs1 imm16, .push r,
          .pop r]) ∧
      (∀ a, exec i s = .fault (.unpopulated a) → ∃ r rs1 imm16,
        (i ∈ [Instr.lw r rs1, .lwP2 r rs1, .lwP4 r rs1, .lwP6 r rs1, .lwM2 r rs1, .lwM4 r rs1, .lwx r rs1 imm16, .pop r] ∧
          (s.kindAt a = .absent ∨ s.kindAt (a + 1#16) = .absent)) ∨
        (i ∈ [Instr.lb r rs1, .lbu r rs1] ∧ s.kindAt a = .absent) ∨
        (i ∈ [Instr.sw r rs1, .swP2 r rs1, .swP4 r rs1, .swP6 r rs1, .swM2 r rs1, .swM4 r rs1, .swx r rs1 imm16, .push r] ∧
          (s.kindAt a ≠ .ram ∨ s.kindAt (a + 1#16) ≠ .ram)) ∨
        (i = .sb r rs1 ∧ s.kindAt a ≠ .ram)) ∧
      (∀ x, exec i s = .fault (.unspecified x) →
        (x = .daa ∧ ∃ rd, i = .daa rd) ∨ (x = .popSp ∧ i = .pop 2#4) ∨
          (i, x) ∈ [(Instr.ldi, UnspecifiedOp.ldi), (.ldd, .ldd), (.ldir, .ldir), (.lddr, .lddr), (.cpir, .cpir),
            (.fill, .fill)])
end

