-- ==== Sys2Proof/Laws/Decode.lean ====
section
/-! SUPPORT. The fields of the words the encoder builds, and the bytes of a word. -/

namespace Sys2Proof

/-! ### Fields of an assembled word -/

@[simp] theorem opcodeOf_wordOf (a b c d : Nibble) : opcodeOf (wordOf a b c d) = a := by
  refine BitVec.eq_of_getLsbD_eq fun k hk => ?_
  simp only [opcodeOf, wordOf, BitVec.getLsbD_extractLsb', BitVec.getLsbD_append]
  interval_cases k <;> simp

@[simp] theorem field3_wordOf (a b c d : Nibble) : field3 (wordOf a b c d) = b := by
  refine BitVec.eq_of_getLsbD_eq fun k hk => ?_
  simp only [field3, wordOf, BitVec.getLsbD_extractLsb', BitVec.getLsbD_append]
  interval_cases k <;> simp

@[simp] theorem field2_wordOf (a b c d : Nibble) : field2 (wordOf a b c d) = c := by
  refine BitVec.eq_of_getLsbD_eq fun k hk => ?_
  simp only [field2, wordOf, BitVec.getLsbD_extractLsb', BitVec.getLsbD_append]
  interval_cases k <;> simp

@[simp] theorem field1_wordOf (a b c d : Nibble) : field1 (wordOf a b c d) = d := by
  refine BitVec.eq_of_getLsbD_eq fun k hk => ?_
  simp only [field1, wordOf, BitVec.getLsbD_extractLsb', BitVec.getLsbD_append]
  interval_cases k <;> simp

@[simp] theorem opcodeOf_wordOfImm8 (a b : Nibble) (i : Byte) : opcodeOf (wordOfImm8 a b i) = a := by
  refine BitVec.eq_of_getLsbD_eq fun k hk => ?_
  simp only [opcodeOf, wordOfImm8, BitVec.getLsbD_extractLsb', BitVec.getLsbD_append]
  interval_cases k <;> simp

@[simp] theorem field3_wordOfImm8 (a b : Nibble) (i : Byte) : field3 (wordOfImm8 a b i) = b := by
  refine BitVec.eq_of_getLsbD_eq fun k hk => ?_
  simp only [field3, wordOfImm8, BitVec.getLsbD_extractLsb', BitVec.getLsbD_append]
  interval_cases k <;> simp

@[simp] theorem imm8Of_wordOfImm8 (a b : Nibble) (i : Byte) : imm8Of (wordOfImm8 a b i) = i := by
  refine BitVec.eq_of_getLsbD_eq fun k hk => ?_
  simp only [imm8Of, wordOfImm8, BitVec.getLsbD_extractLsb', BitVec.getLsbD_append]
  interval_cases k <;> simp

/-! ### Fields of J's word -/

@[simp] theorem opcodeOf_jump (off : BitVec 12) : opcodeOf (0x9#4 ++ off) = 0x9#4 := by
  refine BitVec.eq_of_getLsbD_eq fun k hk => ?_
  simp only [opcodeOf, BitVec.getLsbD_extractLsb', BitVec.getLsbD_append]
  interval_cases k <;> simp

@[simp] theorem offset12Of_jump (off : BitVec 12) : offset12Of (0x9#4 ++ off) = off := by
  refine BitVec.eq_of_getLsbD_eq fun k hk => ?_
  simp only [offset12Of, BitVec.getLsbD_extractLsb', BitVec.getLsbD_append]
  interval_cases k <;> simp

@[simp] theorem field3_jump (off : BitVec 12) : field3 (0x9#4 ++ off) = off.extractLsb' 8 4 := by
  refine BitVec.eq_of_getLsbD_eq fun k hk => ?_
  simp only [field3, BitVec.getLsbD_extractLsb', BitVec.getLsbD_append]
  interval_cases k <;> simp

@[simp] theorem field1_jump (off : BitVec 12) : field1 (0x9#4 ++ off) = off.extractLsb' 0 4 := by
  refine BitVec.eq_of_getLsbD_eq fun k hk => ?_
  simp only [field1, BitVec.getLsbD_extractLsb', BitVec.getLsbD_append]
  interval_cases k <;> simp

/-! ### Bytes of a word -/

@[simp] theorem lowByte_ofBytes (hi lo : Byte) : (Word.ofBytes hi lo).lowByte = lo := by
  refine BitVec.eq_of_getLsbD_eq fun k hk => ?_
  simp only [Word.lowByte, Word.ofBytes, BitVec.getLsbD_extractLsb', BitVec.getLsbD_append]
  interval_cases k <;> simp

@[simp] theorem highByte_ofBytes (hi lo : Byte) : (Word.ofBytes hi lo).highByte = hi := by
  refine BitVec.eq_of_getLsbD_eq fun k hk => ?_
  simp only [Word.highByte, Word.ofBytes, BitVec.getLsbD_extractLsb', BitVec.getLsbD_append]
  interval_cases k <;> simp

@[simp] theorem ofBytes_high_low (w : Word) : Word.ofBytes w.highByte w.lowByte = w := by
  refine BitVec.eq_of_getLsbD_eq fun k hk => ?_
  simp only [Word.ofBytes, Word.highByte, Word.lowByte, BitVec.getLsbD_extractLsb', BitVec.getLsbD_append]
  interval_cases k <;> simp

/-- The operand of INX and OUTX in the second word (48_extended.md R322, R323). -/
@[simp] theorem port_of_second (p : Byte) : (0x00#8 ++ p : Word).extractLsb' 0 8 = p := by
  refine BitVec.eq_of_getLsbD_eq fun k hk => ?_
  simp only [BitVec.getLsbD_extractLsb', BitVec.getLsbD_append]
  interval_cases k <;> simp

/-- The operand of the immediate shifts in the second word (48_extended.md R324). -/
@[simp] theorem amount_of_second (n : Nibble) : (0x000#12 ++ n : Word).extractLsb' 0 4 = n := by
  refine BitVec.eq_of_getLsbD_eq fun k hk => ?_
  simp only [BitVec.getLsbD_extractLsb', BitVec.getLsbD_append]
  interval_cases k <;> simp

/-! ### What the decoder can answer -/

/-- A decoded instruction of opcode 0x9 (30_encoding.md R101), by cases. -/
theorem decodeJump_cases (w0 : Word) :
    (field1 w0 = 0x1#4 ∧ decodeJump w0 = .jalr (field3 w0) (field2 w0)) ∨
    (field1 w0 = 0x0#4 ∧ field3 w0 = 0xF#4 ∧ decodeJump w0 = .jr (field2 w0)) ∨
    (field1 w0 ≠ 0x1#4 ∧ ¬(field3 w0 = 0xF#4 ∧ field1 w0 = 0x0#4) ∧ decodeJump w0 = .j (offset12Of w0)) := by
  unfold decodeJump
  by_cases h1 : field1 w0 = 0x1#4
  · exact .inl ⟨h1, if_pos h1⟩
  · by_cases h2 : field3 w0 = 0xF#4 ∧ field1 w0 = 0x0#4
    · exact .inr (.inl ⟨h2.2, h2.1, by rw [if_neg h1, if_pos h2]⟩)
    · exact .inr (.inr ⟨h1, h2, by rw [if_neg h1, if_neg h2]⟩)

end Sys2Proof
end

