-- ==== Sys2Proof/Laws/State.lean ====
section
/-! SUPPORT. One lemma per field of State per update, and per reader an update leaves alone, each true by rfl and tagged
for simp, so that no later proof unfolds a record update. -/

namespace Sys2Proof.Machine

/-! ### writeReg -/

@[simp] theorem State.writeReg_regs (s : State) (r : RegNum) (v : Word) : (s.writeReg r v).regs = setReg s.regs r v := rfl
@[simp] theorem State.writeReg_alt (s : State) (r : RegNum) (v : Word) : (s.writeReg r v).alt = s.alt := rfl
@[simp] theorem State.writeReg_pc (s : State) (r : RegNum) (v : Word) : (s.writeReg r v).pc = s.pc := rfl
@[simp] theorem State.writeReg_flags (s : State) (r : RegNum) (v : Word) : (s.writeReg r v).flags = s.flags := rfl
@[simp] theorem State.writeReg_ie (s : State) (r : RegNum) (v : Word) : (s.writeReg r v).ie = s.ie := rfl
@[simp] theorem State.writeReg_i (s : State) (r : RegNum) (v : Word) : (s.writeReg r v).i = s.i := rfl
@[simp] theorem State.writeReg_halted (s : State) (r : RegNum) (v : Word) : (s.writeReg r v).halted = s.halted := rfl
@[simp] theorem State.writeReg_mem (s : State) (r : RegNum) (v : Word) : (s.writeReg r v).mem = s.mem := rfl
@[simp] theorem State.writeReg_memMap (s : State) (r : RegNum) (v : Word) : (s.writeReg r v).memMap = s.memMap := rfl
@[simp] theorem State.writeReg_portTrace (s : State) (r : RegNum) (v : Word) : (s.writeReg r v).portTrace = s.portTrace := rfl
@[simp] theorem State.writeReg_freeCount (s : State) (r : RegNum) (v : Word) : (s.writeReg r v).freeCount = s.freeCount := rfl
@[simp] theorem State.writeReg_readAlt (s : State) (r : RegNum) (v : Word) (q : RegNum) : (s.writeReg r v).readAlt q = s.readAlt q := rfl
@[simp] theorem State.writeReg_byteAt (s : State) (r : RegNum) (v : Word) (b : Word) : (s.writeReg r v).byteAt b = s.byteAt b := rfl
@[simp] theorem State.writeReg_wordAt (s : State) (r : RegNum) (v : Word) (b : Word) : (s.writeReg r v).wordAt b = s.wordAt b := rfl
@[simp] theorem State.writeReg_kindAt (s : State) (r : RegNum) (v : Word) (b : Word) : (s.writeReg r v).kindAt b = s.kindAt b := rfl
@[simp] theorem State.writeReg_readable (s : State) (r : RegNum) (v : Word) (b : Word) : (s.writeReg r v).readable b = s.readable b := rfl
@[simp] theorem State.writeReg_writable (s : State) (r : RegNum) (v : Word) (b : Word) : (s.writeReg r v).writable b = s.writable b := rfl

/-! ### swapAlternates -/

@[simp] theorem State.swapAlternates_regs (s : State) : (s.swapAlternates).regs = exchange s.regs s.alt := rfl
@[simp] theorem State.swapAlternates_alt (s : State) : (s.swapAlternates).alt = exchange s.alt s.regs := rfl
@[simp] theorem State.swapAlternates_pc (s : State) : (s.swapAlternates).pc = s.pc := rfl
@[simp] theorem State.swapAlternates_flags (s : State) : (s.swapAlternates).flags = s.flags := rfl
@[simp] theorem State.swapAlternates_ie (s : State) : (s.swapAlternates).ie = s.ie := rfl
@[simp] theorem State.swapAlternates_i (s : State) : (s.swapAlternates).i = s.i := rfl
@[simp] theorem State.swapAlternates_halted (s : State) : (s.swapAlternates).halted = s.halted := rfl
@[simp] theorem State.swapAlternates_mem (s : State) : (s.swapAlternates).mem = s.mem := rfl
@[simp] theorem State.swapAlternates_memMap (s : State) : (s.swapAlternates).memMap = s.memMap := rfl
@[simp] theorem State.swapAlternates_portTrace (s : State) : (s.swapAlternates).portTrace = s.portTrace := rfl
@[simp] theorem State.swapAlternates_freeCount (s : State) : (s.swapAlternates).freeCount = s.freeCount := rfl
@[simp] theorem State.swapAlternates_byteAt (s : State) (b : Word) : (s.swapAlternates).byteAt b = s.byteAt b := rfl
@[simp] theorem State.swapAlternates_wordAt (s : State) (b : Word) : (s.swapAlternates).wordAt b = s.wordAt b := rfl
@[simp] theorem State.swapAlternates_kindAt (s : State) (b : Word) : (s.swapAlternates).kindAt b = s.kindAt b := rfl
@[simp] theorem State.swapAlternates_readable (s : State) (b : Word) : (s.swapAlternates).readable b = s.readable b := rfl
@[simp] theorem State.swapAlternates_writable (s : State) (b : Word) : (s.swapAlternates).writable b = s.writable b := rfl

/-! ### advance -/

@[simp] theorem State.advance_regs (s : State) (len : Word) : (s.advance len).regs = s.regs := rfl
@[simp] theorem State.advance_alt (s : State) (len : Word) : (s.advance len).alt = s.alt := rfl
@[simp] theorem State.advance_pc (s : State) (len : Word) : (s.advance len).pc = s.pc + len := rfl
@[simp] theorem State.advance_flags (s : State) (len : Word) : (s.advance len).flags = s.flags := rfl
@[simp] theorem State.advance_ie (s : State) (len : Word) : (s.advance len).ie = s.ie := rfl
@[simp] theorem State.advance_i (s : State) (len : Word) : (s.advance len).i = s.i := rfl
@[simp] theorem State.advance_halted (s : State) (len : Word) : (s.advance len).halted = s.halted := rfl
@[simp] theorem State.advance_mem (s : State) (len : Word) : (s.advance len).mem = s.mem := rfl
@[simp] theorem State.advance_memMap (s : State) (len : Word) : (s.advance len).memMap = s.memMap := rfl
@[simp] theorem State.advance_portTrace (s : State) (len : Word) : (s.advance len).portTrace = s.portTrace := rfl
@[simp] theorem State.advance_freeCount (s : State) (len : Word) : (s.advance len).freeCount = s.freeCount := rfl
@[simp] theorem State.advance_readReg (s : State) (len : Word) (q : RegNum) : (s.advance len).readReg q = s.readReg q := rfl
@[simp] theorem State.advance_readAlt (s : State) (len : Word) (q : RegNum) : (s.advance len).readAlt q = s.readAlt q := rfl
@[simp] theorem State.advance_byteAt (s : State) (len : Word) (b : Word) : (s.advance len).byteAt b = s.byteAt b := rfl
@[simp] theorem State.advance_wordAt (s : State) (len : Word) (b : Word) : (s.advance len).wordAt b = s.wordAt b := rfl
@[simp] theorem State.advance_kindAt (s : State) (len : Word) (b : Word) : (s.advance len).kindAt b = s.kindAt b := rfl
@[simp] theorem State.advance_readable (s : State) (len : Word) (b : Word) : (s.advance len).readable b = s.readable b := rfl
@[simp] theorem State.advance_writable (s : State) (len : Word) (b : Word) : (s.advance len).writable b = s.writable b := rfl

/-! ### jumpTo -/

@[simp] theorem State.jumpTo_regs (s : State) (a : Word) : (s.jumpTo a).regs = s.regs := rfl
@[simp] theorem State.jumpTo_alt (s : State) (a : Word) : (s.jumpTo a).alt = s.alt := rfl
@[simp] theorem State.jumpTo_pc (s : State) (a : Word) : (s.jumpTo a).pc = a := rfl
@[simp] theorem State.jumpTo_flags (s : State) (a : Word) : (s.jumpTo a).flags = s.flags := rfl
@[simp] theorem State.jumpTo_ie (s : State) (a : Word) : (s.jumpTo a).ie = s.ie := rfl
@[simp] theorem State.jumpTo_i (s : State) (a : Word) : (s.jumpTo a).i = s.i := rfl
@[simp] theorem State.jumpTo_halted (s : State) (a : Word) : (s.jumpTo a).halted = s.halted := rfl
@[simp] theorem State.jumpTo_mem (s : State) (a : Word) : (s.jumpTo a).mem = s.mem := rfl
@[simp] theorem State.jumpTo_memMap (s : State) (a : Word) : (s.jumpTo a).memMap = s.memMap := rfl
@[simp] theorem State.jumpTo_portTrace (s : State) (a : Word) : (s.jumpTo a).portTrace = s.portTrace := rfl
@[simp] theorem State.jumpTo_freeCount (s : State) (a : Word) : (s.jumpTo a).freeCount = s.freeCount := rfl
@[simp] theorem State.jumpTo_readReg (s : State) (a : Word) (q : RegNum) : (s.jumpTo a).readReg q = s.readReg q := rfl
@[simp] theorem State.jumpTo_readAlt (s : State) (a : Word) (q : RegNum) : (s.jumpTo a).readAlt q = s.readAlt q := rfl
@[simp] theorem State.jumpTo_byteAt (s : State) (a : Word) (b : Word) : (s.jumpTo a).byteAt b = s.byteAt b := rfl
@[simp] theorem State.jumpTo_wordAt (s : State) (a : Word) (b : Word) : (s.jumpTo a).wordAt b = s.wordAt b := rfl
@[simp] theorem State.jumpTo_kindAt (s : State) (a : Word) (b : Word) : (s.jumpTo a).kindAt b = s.kindAt b := rfl
@[simp] theorem State.jumpTo_readable (s : State) (a : Word) (b : Word) : (s.jumpTo a).readable b = s.readable b := rfl
@[simp] theorem State.jumpTo_writable (s : State) (a : Word) (b : Word) : (s.jumpTo a).writable b = s.writable b := rfl

/-! ### setFlags -/

@[simp] theorem State.setFlags_regs (s : State) (f : Flags) : (s.setFlags f).regs = s.regs := rfl
@[simp] theorem State.setFlags_alt (s : State) (f : Flags) : (s.setFlags f).alt = s.alt := rfl
@[simp] theorem State.setFlags_pc (s : State) (f : Flags) : (s.setFlags f).pc = s.pc := rfl
@[simp] theorem State.setFlags_flags (s : State) (f : Flags) : (s.setFlags f).flags = f := rfl
@[simp] theorem State.setFlags_ie (s : State) (f : Flags) : (s.setFlags f).ie = s.ie := rfl
@[simp] theorem State.setFlags_i (s : State) (f : Flags) : (s.setFlags f).i = s.i := rfl
@[simp] theorem State.setFlags_halted (s : State) (f : Flags) : (s.setFlags f).halted = s.halted := rfl
@[simp] theorem State.setFlags_mem (s : State) (f : Flags) : (s.setFlags f).mem = s.mem := rfl
@[simp] theorem State.setFlags_memMap (s : State) (f : Flags) : (s.setFlags f).memMap = s.memMap := rfl
@[simp] theorem State.setFlags_portTrace (s : State) (f : Flags) : (s.setFlags f).portTrace = s.portTrace := rfl
@[simp] theorem State.setFlags_freeCount (s : State) (f : Flags) : (s.setFlags f).freeCount = s.freeCount := rfl
@[simp] theorem State.setFlags_readReg (s : State) (f : Flags) (q : RegNum) : (s.setFlags f).readReg q = s.readReg q := rfl
@[simp] theorem State.setFlags_readAlt (s : State) (f : Flags) (q : RegNum) : (s.setFlags f).readAlt q = s.readAlt q := rfl
@[simp] theorem State.setFlags_byteAt (s : State) (f : Flags) (b : Word) : (s.setFlags f).byteAt b = s.byteAt b := rfl
@[simp] theorem State.setFlags_wordAt (s : State) (f : Flags) (b : Word) : (s.setFlags f).wordAt b = s.wordAt b := rfl
@[simp] theorem State.setFlags_kindAt (s : State) (f : Flags) (b : Word) : (s.setFlags f).kindAt b = s.kindAt b := rfl
@[simp] theorem State.setFlags_readable (s : State) (f : Flags) (b : Word) : (s.setFlags f).readable b = s.readable b := rfl
@[simp] theorem State.setFlags_writable (s : State) (f : Flags) (b : Word) : (s.setFlags f).writable b = s.writable b := rfl

/-! ### setCarry -/

@[simp] theorem State.setCarry_regs (s : State) (c : Bool) : (s.setCarry c).regs = s.regs := rfl
@[simp] theorem State.setCarry_alt (s : State) (c : Bool) : (s.setCarry c).alt = s.alt := rfl
@[simp] theorem State.setCarry_pc (s : State) (c : Bool) : (s.setCarry c).pc = s.pc := rfl
@[simp] theorem State.setCarry_flags (s : State) (c : Bool) : (s.setCarry c).flags = { s.flags with c := c } := rfl
@[simp] theorem State.setCarry_ie (s : State) (c : Bool) : (s.setCarry c).ie = s.ie := rfl
@[simp] theorem State.setCarry_i (s : State) (c : Bool) : (s.setCarry c).i = s.i := rfl
@[simp] theorem State.setCarry_halted (s : State) (c : Bool) : (s.setCarry c).halted = s.halted := rfl
@[simp] theorem State.setCarry_mem (s : State) (c : Bool) : (s.setCarry c).mem = s.mem := rfl
@[simp] theorem State.setCarry_memMap (s : State) (c : Bool) : (s.setCarry c).memMap = s.memMap := rfl
@[simp] theorem State.setCarry_portTrace (s : State) (c : Bool) : (s.setCarry c).portTrace = s.portTrace := rfl
@[simp] theorem State.setCarry_freeCount (s : State) (c : Bool) : (s.setCarry c).freeCount = s.freeCount := rfl
@[simp] theorem State.setCarry_readReg (s : State) (c : Bool) (q : RegNum) : (s.setCarry c).readReg q = s.readReg q := rfl
@[simp] theorem State.setCarry_readAlt (s : State) (c : Bool) (q : RegNum) : (s.setCarry c).readAlt q = s.readAlt q := rfl
@[simp] theorem State.setCarry_byteAt (s : State) (c : Bool) (b : Word) : (s.setCarry c).byteAt b = s.byteAt b := rfl
@[simp] theorem State.setCarry_wordAt (s : State) (c : Bool) (b : Word) : (s.setCarry c).wordAt b = s.wordAt b := rfl
@[simp] theorem State.setCarry_kindAt (s : State) (c : Bool) (b : Word) : (s.setCarry c).kindAt b = s.kindAt b := rfl
@[simp] theorem State.setCarry_readable (s : State) (c : Bool) (b : Word) : (s.setCarry c).readable b = s.readable b := rfl
@[simp] theorem State.setCarry_writable (s : State) (c : Bool) (b : Word) : (s.setCarry c).writable b = s.writable b := rfl

/-! ### halt -/

@[simp] theorem State.halt_regs (s : State) : (s.halt).regs = s.regs := rfl
@[simp] theorem State.halt_alt (s : State) : (s.halt).alt = s.alt := rfl
@[simp] theorem State.halt_pc (s : State) : (s.halt).pc = s.pc := rfl
@[simp] theorem State.halt_flags (s : State) : (s.halt).flags = s.flags := rfl
@[simp] theorem State.halt_ie (s : State) : (s.halt).ie = s.ie := rfl
@[simp] theorem State.halt_i (s : State) : (s.halt).i = s.i := rfl
@[simp] theorem State.halt_halted (s : State) : (s.halt).halted = true := rfl
@[simp] theorem State.halt_mem (s : State) : (s.halt).mem = s.mem := rfl
@[simp] theorem State.halt_memMap (s : State) : (s.halt).memMap = s.memMap := rfl
@[simp] theorem State.halt_portTrace (s : State) : (s.halt).portTrace = s.portTrace := rfl
@[simp] theorem State.halt_freeCount (s : State) : (s.halt).freeCount = s.freeCount := rfl
@[simp] theorem State.halt_readReg (s : State) (q : RegNum) : (s.halt).readReg q = s.readReg q := rfl
@[simp] theorem State.halt_readAlt (s : State) (q : RegNum) : (s.halt).readAlt q = s.readAlt q := rfl
@[simp] theorem State.halt_byteAt (s : State) (b : Word) : (s.halt).byteAt b = s.byteAt b := rfl
@[simp] theorem State.halt_wordAt (s : State) (b : Word) : (s.halt).wordAt b = s.wordAt b := rfl
@[simp] theorem State.halt_kindAt (s : State) (b : Word) : (s.halt).kindAt b = s.kindAt b := rfl
@[simp] theorem State.halt_readable (s : State) (b : Word) : (s.halt).readable b = s.readable b := rfl
@[simp] theorem State.halt_writable (s : State) (b : Word) : (s.halt).writable b = s.writable b := rfl

/-! ### setIe -/

@[simp] theorem State.setIe_regs (s : State) (b : Bool) : (s.setIe b).regs = s.regs := rfl
@[simp] theorem State.setIe_alt (s : State) (b : Bool) : (s.setIe b).alt = s.alt := rfl
@[simp] theorem State.setIe_pc (s : State) (b : Bool) : (s.setIe b).pc = s.pc := rfl
@[simp] theorem State.setIe_flags (s : State) (b : Bool) : (s.setIe b).flags = s.flags := rfl
@[simp] theorem State.setIe_ie (s : State) (b : Bool) : (s.setIe b).ie = b := rfl
@[simp] theorem State.setIe_i (s : State) (b : Bool) : (s.setIe b).i = Config.iFlagRelation.iOf b s.i := rfl
@[simp] theorem State.setIe_halted (s : State) (b : Bool) : (s.setIe b).halted = s.halted := rfl
@[simp] theorem State.setIe_mem (s : State) (b : Bool) : (s.setIe b).mem = s.mem := rfl
@[simp] theorem State.setIe_memMap (s : State) (b : Bool) : (s.setIe b).memMap = s.memMap := rfl
@[simp] theorem State.setIe_portTrace (s : State) (b : Bool) : (s.setIe b).portTrace = s.portTrace := rfl
@[simp] theorem State.setIe_freeCount (s : State) (b : Bool) : (s.setIe b).freeCount = s.freeCount := rfl
@[simp] theorem State.setIe_readReg (s : State) (b : Bool) (q : RegNum) : (s.setIe b).readReg q = s.readReg q := rfl
@[simp] theorem State.setIe_readAlt (s : State) (b : Bool) (q : RegNum) : (s.setIe b).readAlt q = s.readAlt q := rfl
@[simp] theorem State.setIe_byteAt (s : State) (b : Bool) (x : Word) : (s.setIe b).byteAt x = s.byteAt x := rfl
@[simp] theorem State.setIe_wordAt (s : State) (b : Bool) (x : Word) : (s.setIe b).wordAt x = s.wordAt x := rfl
@[simp] theorem State.setIe_kindAt (s : State) (b : Bool) (x : Word) : (s.setIe b).kindAt x = s.kindAt x := rfl
@[simp] theorem State.setIe_readable (s : State) (b : Bool) (x : Word) : (s.setIe b).readable x = s.readable x := rfl
@[simp] theorem State.setIe_writable (s : State) (b : Bool) (x : Word) : (s.setIe b).writable x = s.writable x := rfl

/-! ### setI -/

@[simp] theorem State.setI_regs (s : State) (b : Bool) : (s.setI b).regs = s.regs := rfl
@[simp] theorem State.setI_alt (s : State) (b : Bool) : (s.setI b).alt = s.alt := rfl
@[simp] theorem State.setI_pc (s : State) (b : Bool) : (s.setI b).pc = s.pc := rfl
@[simp] theorem State.setI_flags (s : State) (b : Bool) : (s.setI b).flags = s.flags := rfl
@[simp] theorem State.setI_ie (s : State) (b : Bool) : (s.setI b).ie = Config.iFlagRelation.ieOf b s.ie := rfl
@[simp] theorem State.setI_i (s : State) (b : Bool) : (s.setI b).i = b := rfl
@[simp] theorem State.setI_halted (s : State) (b : Bool) : (s.setI b).halted = s.halted := rfl
@[simp] theorem State.setI_mem (s : State) (b : Bool) : (s.setI b).mem = s.mem := rfl
@[simp] theorem State.setI_memMap (s : State) (b : Bool) : (s.setI b).memMap = s.memMap := rfl
@[simp] theorem State.setI_portTrace (s : State) (b : Bool) : (s.setI b).portTrace = s.portTrace := rfl
@[simp] theorem State.setI_freeCount (s : State) (b : Bool) : (s.setI b).freeCount = s.freeCount := rfl
@[simp] theorem State.setI_readReg (s : State) (b : Bool) (q : RegNum) : (s.setI b).readReg q = s.readReg q := rfl
@[simp] theorem State.setI_readAlt (s : State) (b : Bool) (q : RegNum) : (s.setI b).readAlt q = s.readAlt q := rfl
@[simp] theorem State.setI_byteAt (s : State) (b : Bool) (x : Word) : (s.setI b).byteAt x = s.byteAt x := rfl
@[simp] theorem State.setI_wordAt (s : State) (b : Bool) (x : Word) : (s.setI b).wordAt x = s.wordAt x := rfl
@[simp] theorem State.setI_kindAt (s : State) (b : Bool) (x : Word) : (s.setI b).kindAt x = s.kindAt x := rfl
@[simp] theorem State.setI_readable (s : State) (b : Bool) (x : Word) : (s.setI b).readable x = s.readable x := rfl
@[simp] theorem State.setI_writable (s : State) (b : Bool) (x : Word) : (s.setI b).writable x = s.writable x := rfl

/-! ### setByte -/

@[simp] theorem State.setByte_regs (s : State) (a : Word) (b : Byte) : (s.setByte a b).regs = s.regs := rfl
@[simp] theorem State.setByte_alt (s : State) (a : Word) (b : Byte) : (s.setByte a b).alt = s.alt := rfl
@[simp] theorem State.setByte_pc (s : State) (a : Word) (b : Byte) : (s.setByte a b).pc = s.pc := rfl
@[simp] theorem State.setByte_flags (s : State) (a : Word) (b : Byte) : (s.setByte a b).flags = s.flags := rfl
@[simp] theorem State.setByte_ie (s : State) (a : Word) (b : Byte) : (s.setByte a b).ie = s.ie := rfl
@[simp] theorem State.setByte_i (s : State) (a : Word) (b : Byte) : (s.setByte a b).i = s.i := rfl
@[simp] theorem State.setByte_halted (s : State) (a : Word) (b : Byte) : (s.setByte a b).halted = s.halted := rfl
@[simp] theorem State.setByte_mem (s : State) (a : Word) (b : Byte) : (s.setByte a b).mem = Memory.write s.mem a.toNat b := rfl
@[simp] theorem State.setByte_memMap (s : State) (a : Word) (b : Byte) : (s.setByte a b).memMap = s.memMap := rfl
@[simp] theorem State.setByte_portTrace (s : State) (a : Word) (b : Byte) : (s.setByte a b).portTrace = s.portTrace := rfl
@[simp] theorem State.setByte_freeCount (s : State) (a : Word) (b : Byte) : (s.setByte a b).freeCount = s.freeCount := rfl
@[simp] theorem State.setByte_readReg (s : State) (a : Word) (b : Byte) (q : RegNum) : (s.setByte a b).readReg q = s.readReg q := rfl
@[simp] theorem State.setByte_readAlt (s : State) (a : Word) (b : Byte) (q : RegNum) : (s.setByte a b).readAlt q = s.readAlt q := rfl
@[simp] theorem State.setByte_kindAt (s : State) (a : Word) (b : Byte) (x : Word) : (s.setByte a b).kindAt x = s.kindAt x := rfl
@[simp] theorem State.setByte_readable (s : State) (a : Word) (b : Byte) (x : Word) : (s.setByte a b).readable x = s.readable x := rfl
@[simp] theorem State.setByte_writable (s : State) (a : Word) (b : Byte) (x : Word) : (s.setByte a b).writable x = s.writable x := rfl

/-! ### setWord -/

@[simp] theorem State.setWord_regs (s : State) (a v : Word) : (s.setWord a v).regs = s.regs := rfl
@[simp] theorem State.setWord_alt (s : State) (a v : Word) : (s.setWord a v).alt = s.alt := rfl
@[simp] theorem State.setWord_pc (s : State) (a v : Word) : (s.setWord a v).pc = s.pc := rfl
@[simp] theorem State.setWord_flags (s : State) (a v : Word) : (s.setWord a v).flags = s.flags := rfl
@[simp] theorem State.setWord_ie (s : State) (a v : Word) : (s.setWord a v).ie = s.ie := rfl
@[simp] theorem State.setWord_i (s : State) (a v : Word) : (s.setWord a v).i = s.i := rfl
@[simp] theorem State.setWord_halted (s : State) (a v : Word) : (s.setWord a v).halted = s.halted := rfl
@[simp] theorem State.setWord_mem (s : State) (a v : Word) : (s.setWord a v).mem = Memory.write (Memory.write s.mem a.toNat v.lowByte) (a + 1#16).toNat v.highByte := rfl
@[simp] theorem State.setWord_memMap (s : State) (a v : Word) : (s.setWord a v).memMap = s.memMap := rfl
@[simp] theorem State.setWord_portTrace (s : State) (a v : Word) : (s.setWord a v).portTrace = s.portTrace := rfl
@[simp] theorem State.setWord_freeCount (s : State) (a v : Word) : (s.setWord a v).freeCount = s.freeCount := rfl
@[simp] theorem State.setWord_readReg (s : State) (a v : Word) (q : RegNum) : (s.setWord a v).readReg q = s.readReg q := rfl
@[simp] theorem State.setWord_readAlt (s : State) (a v : Word) (q : RegNum) : (s.setWord a v).readAlt q = s.readAlt q := rfl
@[simp] theorem State.setWord_kindAt (s : State) (a v : Word) (b : Word) : (s.setWord a v).kindAt b = s.kindAt b := rfl
@[simp] theorem State.setWord_readable (s : State) (a v : Word) (b : Word) : (s.setWord a v).readable b = s.readable b := rfl
@[simp] theorem State.setWord_writable (s : State) (a v : Word) (b : Word) : (s.setWord a v).writable b = s.writable b := rfl

/-! ### recordPort -/

@[simp] theorem State.recordPort_regs (s : State) (e : PortEvent) : (s.recordPort e).regs = s.regs := rfl
@[simp] theorem State.recordPort_alt (s : State) (e : PortEvent) : (s.recordPort e).alt = s.alt := rfl
@[simp] theorem State.recordPort_pc (s : State) (e : PortEvent) : (s.recordPort e).pc = s.pc := rfl
@[simp] theorem State.recordPort_flags (s : State) (e : PortEvent) : (s.recordPort e).flags = s.flags := rfl
@[simp] theorem State.recordPort_ie (s : State) (e : PortEvent) : (s.recordPort e).ie = s.ie := rfl
@[simp] theorem State.recordPort_i (s : State) (e : PortEvent) : (s.recordPort e).i = s.i := rfl
@[simp] theorem State.recordPort_halted (s : State) (e : PortEvent) : (s.recordPort e).halted = s.halted := rfl
@[simp] theorem State.recordPort_mem (s : State) (e : PortEvent) : (s.recordPort e).mem = s.mem := rfl
@[simp] theorem State.recordPort_memMap (s : State) (e : PortEvent) : (s.recordPort e).memMap = s.memMap := rfl
@[simp] theorem State.recordPort_portTrace (s : State) (e : PortEvent) : (s.recordPort e).portTrace = e :: s.portTrace := rfl
@[simp] theorem State.recordPort_freeCount (s : State) (e : PortEvent) : (s.recordPort e).freeCount = s.freeCount := rfl
@[simp] theorem State.recordPort_readReg (s : State) (e : PortEvent) (q : RegNum) : (s.recordPort e).readReg q = s.readReg q := rfl
@[simp] theorem State.recordPort_readAlt (s : State) (e : PortEvent) (q : RegNum) : (s.recordPort e).readAlt q = s.readAlt q := rfl
@[simp] theorem State.recordPort_byteAt (s : State) (e : PortEvent) (b : Word) : (s.recordPort e).byteAt b = s.byteAt b := rfl
@[simp] theorem State.recordPort_wordAt (s : State) (e : PortEvent) (b : Word) : (s.recordPort e).wordAt b = s.wordAt b := rfl
@[simp] theorem State.recordPort_kindAt (s : State) (e : PortEvent) (b : Word) : (s.recordPort e).kindAt b = s.kindAt b := rfl
@[simp] theorem State.recordPort_readable (s : State) (e : PortEvent) (b : Word) : (s.recordPort e).readable b = s.readable b := rfl
@[simp] theorem State.recordPort_writable (s : State) (e : PortEvent) (b : Word) : (s.recordPort e).writable b = s.writable b := rfl

/-! ### drawFree -/

@[simp] theorem State.drawFree_regs (s : State) : (s.drawFree).regs = s.regs := rfl
@[simp] theorem State.drawFree_alt (s : State) : (s.drawFree).alt = s.alt := rfl
@[simp] theorem State.drawFree_pc (s : State) : (s.drawFree).pc = s.pc := rfl
@[simp] theorem State.drawFree_flags (s : State) : (s.drawFree).flags = s.flags := rfl
@[simp] theorem State.drawFree_ie (s : State) : (s.drawFree).ie = s.ie := rfl
@[simp] theorem State.drawFree_i (s : State) : (s.drawFree).i = s.i := rfl
@[simp] theorem State.drawFree_halted (s : State) : (s.drawFree).halted = s.halted := rfl
@[simp] theorem State.drawFree_mem (s : State) : (s.drawFree).mem = s.mem := rfl
@[simp] theorem State.drawFree_memMap (s : State) : (s.drawFree).memMap = s.memMap := rfl
@[simp] theorem State.drawFree_portTrace (s : State) : (s.drawFree).portTrace = s.portTrace := rfl
@[simp] theorem State.drawFree_freeCount (s : State) : (s.drawFree).freeCount = s.freeCount + 1 := rfl
@[simp] theorem State.drawFree_readReg (s : State) (q : RegNum) : (s.drawFree).readReg q = s.readReg q := rfl
@[simp] theorem State.drawFree_readAlt (s : State) (q : RegNum) : (s.drawFree).readAlt q = s.readAlt q := rfl
@[simp] theorem State.drawFree_byteAt (s : State) (b : Word) : (s.drawFree).byteAt b = s.byteAt b := rfl
@[simp] theorem State.drawFree_wordAt (s : State) (b : Word) : (s.drawFree).wordAt b = s.wordAt b := rfl
@[simp] theorem State.drawFree_kindAt (s : State) (b : Word) : (s.drawFree).kindAt b = s.kindAt b := rfl
@[simp] theorem State.drawFree_readable (s : State) (b : Word) : (s.drawFree).readable b = s.readable b := rfl
@[simp] theorem State.drawFree_writable (s : State) (b : Word) : (s.drawFree).writable b = s.writable b := rfl

/-! ### applyTrap -/

@[simp] theorem State.applyTrap_regs (s : State) (e : TrapEffect) : (s.applyTrap e).regs = e.regs.foldl (fun rs w => setReg rs w.1 w.2) s.regs := rfl
@[simp] theorem State.applyTrap_alt (s : State) (e : TrapEffect) : (s.applyTrap e).alt = e.alts.foldl setAlt s.alt := rfl
@[simp] theorem State.applyTrap_pc (s : State) (e : TrapEffect) : (s.applyTrap e).pc = e.pc := rfl
@[simp] theorem State.applyTrap_flags (s : State) (e : TrapEffect) : (s.applyTrap e).flags = e.flags := rfl
@[simp] theorem State.applyTrap_ie (s : State) (e : TrapEffect) : (s.applyTrap e).ie = e.ie := rfl
@[simp] theorem State.applyTrap_i (s : State) (e : TrapEffect) : (s.applyTrap e).i = Config.iFlagRelation.iOf e.ie e.i := rfl
@[simp] theorem State.applyTrap_halted (s : State) (e : TrapEffect) : (s.applyTrap e).halted = s.halted := rfl
@[simp] theorem State.applyTrap_mem (s : State) (e : TrapEffect) : (s.applyTrap e).mem = e.bytes.foldl (pokeRam s.memMap) s.mem := rfl
@[simp] theorem State.applyTrap_memMap (s : State) (e : TrapEffect) : (s.applyTrap e).memMap = s.memMap := rfl
@[simp] theorem State.applyTrap_portTrace (s : State) (e : TrapEffect) : (s.applyTrap e).portTrace = s.portTrace := rfl
@[simp] theorem State.applyTrap_freeCount (s : State) (e : TrapEffect) : (s.applyTrap e).freeCount = s.freeCount := rfl
@[simp] theorem State.applyTrap_kindAt (s : State) (e : TrapEffect) (b : Word) : (s.applyTrap e).kindAt b = s.kindAt b := rfl
@[simp] theorem State.applyTrap_readable (s : State) (e : TrapEffect) (b : Word) : (s.applyTrap e).readable b = s.readable b := rfl
@[simp] theorem State.applyTrap_writable (s : State) (e : TrapEffect) (b : Word) : (s.applyTrap e).writable b = s.writable b := rfl

/-! ### writeFlagsByte -/

@[simp] theorem State.writeFlagsByte_regs (s : State) (f : Byte) : (s.writeFlagsByte f).regs = s.regs := rfl
@[simp] theorem State.writeFlagsByte_alt (s : State) (f : Byte) : (s.writeFlagsByte f).alt = s.alt := rfl
@[simp] theorem State.writeFlagsByte_pc (s : State) (f : Byte) : (s.writeFlagsByte f).pc = s.pc := rfl
@[simp] theorem State.writeFlagsByte_flags (s : State) (f : Byte) : (s.writeFlagsByte f).flags = flagsOfByte Config.flagsLayout f := rfl
@[simp] theorem State.writeFlagsByte_ie (s : State) (f : Byte) : (s.writeFlagsByte f).ie = (Config.flagsLayout.posI.map fun k => Config.iFlagRelation.ieOf (bitAt f k) s.ie).getD s.ie := rfl
@[simp] theorem State.writeFlagsByte_i (s : State) (f : Byte) : (s.writeFlagsByte f).i = (Config.flagsLayout.posI.map (bitAt f)).getD s.i := rfl
@[simp] theorem State.writeFlagsByte_halted (s : State) (f : Byte) : (s.writeFlagsByte f).halted = s.halted := rfl
@[simp] theorem State.writeFlagsByte_mem (s : State) (f : Byte) : (s.writeFlagsByte f).mem = s.mem := rfl
@[simp] theorem State.writeFlagsByte_memMap (s : State) (f : Byte) : (s.writeFlagsByte f).memMap = s.memMap := rfl
@[simp] theorem State.writeFlagsByte_portTrace (s : State) (f : Byte) : (s.writeFlagsByte f).portTrace = s.portTrace := rfl
@[simp] theorem State.writeFlagsByte_freeCount (s : State) (f : Byte) : (s.writeFlagsByte f).freeCount = s.freeCount := rfl
@[simp] theorem State.writeFlagsByte_readReg (s : State) (f : Byte) (q : RegNum) : (s.writeFlagsByte f).readReg q = s.readReg q := rfl
@[simp] theorem State.writeFlagsByte_readAlt (s : State) (f : Byte) (q : RegNum) : (s.writeFlagsByte f).readAlt q = s.readAlt q := rfl
@[simp] theorem State.writeFlagsByte_byteAt (s : State) (f : Byte) (b : Word) : (s.writeFlagsByte f).byteAt b = s.byteAt b := rfl
@[simp] theorem State.writeFlagsByte_wordAt (s : State) (f : Byte) (b : Word) : (s.writeFlagsByte f).wordAt b = s.wordAt b := rfl
@[simp] theorem State.writeFlagsByte_kindAt (s : State) (f : Byte) (b : Word) : (s.writeFlagsByte f).kindAt b = s.kindAt b := rfl
@[simp] theorem State.writeFlagsByte_readable (s : State) (f : Byte) (b : Word) : (s.writeFlagsByte f).readable b = s.readable b := rfl
@[simp] theorem State.writeFlagsByte_writable (s : State) (f : Byte) (b : Word) : (s.writeFlagsByte f).writable b = s.writable b := rfl

end Sys2Proof.Machine
end

