-- ==== Sys2Proof/Laws/Memory.lean ====
section
/-! SUPPORT. Memory: read after write, the frame of a write, and the canonical form, kept by every memory operation. -/

namespace Sys2Proof.Machine

/-! ### The list -/

/-- A write leaves every other address alone, in any list. -/
theorem Memory.read_write_other (m : Memory) {a x : Nat} (b : Byte) (h : x ≠ a) :
    Memory.read (Memory.write m a b) x = Memory.read m x := by
  induction m with
  | nil => by_cases hb : b = unlistedByte <;> simp [Memory.write, Memory.read, hb, Ne.symm h]
  | cons e rest ih =>
    obtain ⟨k, v⟩ := e
    simp only [Memory.write]
    split
    · split <;> simp [Memory.read, Ne.symm h]
    · split
      · rename_i hk
        subst hk
        split <;> simp [Memory.read, Ne.symm h]
      · simp [Memory.read, ih]

/-- Nothing below `low` is listed. -/
theorem Memory.read_below {m : Memory} {low a : Nat} (h : Memory.wfFrom low m = true) (ha : a < low) :
    Memory.read m a = unlistedByte := by
  induction m generalizing low with
  | nil => rfl
  | cons e rest ih =>
    obtain ⟨k, v⟩ := e
    simp only [Memory.wfFrom, Bool.and_eq_true, decide_eq_true_eq] at h
    obtain ⟨⟨⟨hlow, -⟩, -⟩, hrest⟩ := h
    have hka : k ≠ a := by omega
    simp [Memory.read, hka, ih hrest (by omega)]

theorem Memory.read_write_same_from {m : Memory} {low a : Nat} (b : Byte) (h : Memory.wfFrom low m = true) :
    Memory.read (Memory.write m a b) a = b := by
  induction m generalizing low with
  | nil => by_cases hb : b = unlistedByte <;> simp [Memory.write, Memory.read, hb]
  | cons e rest ih =>
    obtain ⟨k, v⟩ := e
    simp only [Memory.wfFrom, Bool.and_eq_true, decide_eq_true_eq] at h
    obtain ⟨⟨⟨-, -⟩, -⟩, hrest⟩ := h
    simp only [Memory.write]
    split
    · rename_i hlt
      split
      · rename_i hb
        have hka : k ≠ a := by omega
        simp [Memory.read, hka, hb, Memory.read_below hrest (show a < k + 1 by omega)]
      · simp [Memory.read]
    · split
      · rename_i hk
        subst hk
        split
        · rename_i hb
          simp [hb, Memory.read_below hrest (Nat.lt_succ_self a)]
        · simp [Memory.read]
      · rename_i hk
        simp [Memory.read, Ne.symm hk, ih hrest]

/-- A read after a write to the same address gives the value written, in a canonical list. -/
theorem Memory.read_write_same {m : Memory} {a : Nat} (b : Byte) (h : m.wf = true) :
    Memory.read (Memory.write m a b) a = b := Memory.read_write_same_from b h

theorem Memory.wfFrom_mono {m : Memory} {low low' : Nat} (h : Memory.wfFrom low m = true) (hl : low' ≤ low) :
    Memory.wfFrom low' m = true := by
  cases m with
  | nil => rfl
  | cons e rest =>
    obtain ⟨k, v⟩ := e
    simp only [Memory.wfFrom, Bool.and_eq_true, decide_eq_true_eq] at h ⊢
    exact ⟨⟨⟨by omega, h.1.1.2⟩, h.1.2⟩, h.2⟩

theorem Memory.wfFrom_write {m : Memory} {low a : Nat} (b : Byte) (h : Memory.wfFrom low m = true) (hlow : low ≤ a)
    (ha : a < 2 ^ 16) : Memory.wfFrom low (Memory.write m a b) = true := by
  induction m generalizing low with
  | nil => by_cases hb : b = unlistedByte <;> simp [Memory.write, Memory.wfFrom, hb, hlow]; omega
  | cons e rest ih =>
    obtain ⟨k, v⟩ := e
    have h' := h
    simp only [Memory.wfFrom, Bool.and_eq_true, decide_eq_true_eq] at h
    obtain ⟨⟨⟨hk, hk16⟩, hv⟩, hrest⟩ := h
    simp only [Memory.write]
    split
    · rename_i hlt
      split
      · exact h'
      · rename_i hb
        simp only [Memory.wfFrom, Bool.and_eq_true, decide_eq_true_eq]
        exact ⟨⟨⟨hlow, ha⟩, by simpa using hb⟩, ⟨⟨by omega, hk16⟩, hv⟩, hrest⟩
    · split
      · rename_i hak
        subst hak
        split
        · exact Memory.wfFrom_mono hrest (by omega)
        · rename_i hb
          simp only [Memory.wfFrom, Bool.and_eq_true, decide_eq_true_eq]
          exact ⟨⟨⟨hlow, ha⟩, by simpa using hb⟩, hrest⟩
      · rename_i hnlt hne
        simp only [Memory.wfFrom, Bool.and_eq_true, decide_eq_true_eq]
        exact ⟨⟨⟨hk, hk16⟩, hv⟩, ih hrest (by omega)⟩

/-- A write keeps the canonical form. -/
theorem Memory.wf_write {m : Memory} {a : Nat} (b : Byte) (h : m.wf = true) (ha : a < 2 ^ 16) :
    (Memory.write m a b).wf = true := Memory.wfFrom_write b h (Nat.zero_le a) ha

/-- The memory after reset is canonical. -/
theorem reset_mem_wf : State.reset.mem.wf = true := rfl

/-! ### The state's operations -/

theorem setByte_wf {s : State} (a : Word) (b : Byte) (h : s.mem.wf = true) : (s.setByte a b).mem.wf = true :=
  Memory.wf_write b h a.isLt

theorem setWord_wf {s : State} (a v : Word) (h : s.mem.wf = true) : (s.setWord a v).mem.wf = true :=
  setByte_wf _ _ (setByte_wf _ _ h)

theorem pokeRam_wf {map : List Region} {m : Memory} (w : Word × Byte) (h : m.wf = true) :
    (pokeRam map m w).wf = true := by
  unfold pokeRam
  split
  · exact Memory.wf_write _ h w.1.isLt
  · exact h

theorem foldl_pokeRam_wf {map : List Region} (ws : List (Word × Byte)) {m : Memory} (h : m.wf = true) :
    (ws.foldl (pokeRam map) m).wf = true := by
  induction ws generalizing m with
  | nil => exact h
  | cons w rest ih => exact ih (pokeRam_wf w h)

theorem applyTrap_wf {s : State} (e : TrapEffect) (h : s.mem.wf = true) : (s.applyTrap e).mem.wf = true :=
  foldl_pokeRam_wf e.bytes h

/-- A byte write leaves every other byte alone. -/
theorem byteAt_setByte_other {s : State} {a x : Word} (b : Byte) (h : x ≠ a) :
    (s.setByte a b).byteAt x = s.byteAt x :=
  Memory.read_write_other s.mem b fun he => h (BitVec.eq_of_toNat_eq he)

/-- A byte write, read back. -/
theorem byteAt_setByte_same {s : State} (a : Word) (b : Byte) (h : s.mem.wf = true) :
    (s.setByte a b).byteAt a = b := Memory.read_write_same b h

/-- The address after `a` is another one. -/
theorem succ_ne_self (a : Word) : a + 1#16 ≠ a := by
  intro h
  bv_omega

/-- A word write leaves every byte but its two alone. -/
theorem byteAt_setWord_other {s : State} {a x : Word} (v : Word) (h0 : x ≠ a) (h1 : x ≠ a + 1#16) :
    (s.setWord a v).byteAt x = s.byteAt x := by
  rw [State.setWord, byteAt_setByte_other _ h1, byteAt_setByte_other _ h0]

/-- The byte at `a` of a word written there is its low byte (20_memory.md R50). -/
theorem byteAt_setWord_low {s : State} (a v : Word) (h : s.mem.wf = true) : (s.setWord a v).byteAt a = v.lowByte := by
  rw [State.setWord, byteAt_setByte_other _ (succ_ne_self a).symm, byteAt_setByte_same _ _ h]

/-- The byte at `a + 1#16` of a word written at `a` is its high byte (20_memory.md R50). -/
theorem byteAt_setWord_high {s : State} (a v : Word) (h : s.mem.wf = true) :
    (s.setWord a v).byteAt (a + 1#16) = v.highByte := byteAt_setByte_same _ _ (setByte_wf _ _ h)

/-- A trap model's writes leave every byte that is not RAM alone. -/
theorem foldl_pokeRam_read {map : List Region} (ws : List (Word × Byte)) (m : Memory) {a : Word}
    (h : kindIn map a ≠ .ram) : Memory.read (ws.foldl (pokeRam map) m) a.toNat = Memory.read m a.toNat := by
  induction ws generalizing m with
  | nil => rfl
  | cons w rest ih =>
    rw [List.foldl_cons, ih, pokeRam]
    split
    · rename_i hw
      refine Memory.read_write_other _ _ fun he => h ?_
      rw [BitVec.eq_of_toNat_eq he]
      simpa using hw
    · rfl

end Sys2Proof.Machine
end

