-- ==== Sys2Proof/Laws/Ops.lean ====
section
/-! SUPPORT. One lemma per shared operation that says once what it can do. -/

namespace Sys2Proof.Machine

/-! ### Registers -/

/-- R0 reads 0 (10_state.md R21). -/
@[simp] theorem readReg_zero (s : State) : s.readReg 0#4 = 0#16 := rfl

theorem regIndex_inj {q r : RegNum} (hq : q ≠ 0#4) (hr : r ≠ 0#4) (h : regIndex q = regIndex r) : q = r := by
  have h1 : q.toNat ≠ 0 := fun e => hq (BitVec.eq_of_toNat_eq (by simpa using e))
  have h2 : r.toNat ≠ 0 := fun e => hr (BitVec.eq_of_toNat_eq (by simpa using e))
  have h3 : q.toNat - 1 = r.toNat - 1 := congrArg Fin.val h
  exact BitVec.eq_of_toNat_eq (by omega)

/-- Reading a register file after a write to one register. -/
theorem setReg_get (regs : Vector Word 15) (r q : RegNum) (v : Word) (hq : q ≠ 0#4) :
    (setReg regs r v)[regIndex q] = if q = r then v else regs[regIndex q] := by
  unfold setReg
  split
  · rename_i hr
    have : q ≠ r := fun e => hq (e.trans hr)
    simp [this]
  · rename_i hr
    by_cases hqr : q = r
    · subst hqr; simp
    · have : (regIndex r).val ≠ (regIndex q).val := fun e => hqr (regIndex_inj hr hq (Fin.ext e)).symm
      simp [hqr, Vector.getElem_set_ne _ _ this]

/-- Reading any register after a write to any: a write to R0 is discarded (10_state.md R21). -/
theorem readReg_writeReg (s : State) (r q : RegNum) (v : Word) :
    (s.writeReg r v).readReg q = if q = r ∧ q ≠ 0#4 then v else s.readReg q := by
  unfold State.readReg
  by_cases hq : q = 0#4
  · simp [hq]
  · simp [hq, setReg_get _ _ _ _ hq]

@[simp] theorem readReg_writeReg_same (s : State) (r : RegNum) (v : Word) :
    (s.writeReg r v).readReg r = if r = 0#4 then 0#16 else v := by
  rw [readReg_writeReg]
  by_cases h : r = 0#4 <;> simp [h]

theorem readReg_writeReg_other (s : State) {r q : RegNum} (v : Word) (h : q ≠ r) :
    (s.writeReg r v).readReg q = s.readReg q := by simp [readReg_writeReg, h]

/-- The register number behind a place of the register file. -/
theorem regNum_regIndex (r : RegNum) (h : r ≠ 0#4) : BitVec.ofNat 4 ((regIndex r).val + 1) = r := by
  have h1 : r.toNat ≠ 0 := fun e => h (BitVec.eq_of_toNat_eq (by simpa using e))
  refine BitVec.eq_of_toNat_eq ?_
  have := r.isLt
  simp only [regIndex, BitVec.toNat_ofNat]
  omega

/-- EXX, register by register (45_stack_misc.md R261). -/
theorem readReg_swapAlternates (s : State) (r : RegNum) :
    s.swapAlternates.readReg r = if Config.inExxSet r then s.readAlt r else s.readReg r := by
  by_cases h : r = 0#4
  · subst h; simp [State.readReg, Config.inExxSet]
  · simp [State.readReg, State.readAlt, h, exchange, regNum_regIndex r h]

theorem readAlt_swapAlternates (s : State) (r : RegNum) :
    s.swapAlternates.readAlt r = if Config.inExxSet r then s.readReg r else s.readAlt r := by
  by_cases h : r = 0#4
  · subst h; simp [State.readAlt, Config.inExxSet]
  · simp [State.readReg, State.readAlt, h, exchange, regNum_regIndex r h]

/-! ### Memory accesses -/

/-- What a word read does (20_memory.md R52; 60_exceptions.md R342). -/
theorem loadWord_ok (s : State) {a : Word} (h : isOdd a = false) (h0 : s.readable a = true)
    (h1 : s.readable (a + 1#16) = true) : s.loadWord a = .ok (s.wordAt a) := by simp [State.loadWord, h, h0, h1]

theorem loadWord_odd (s : State) {a : Word} (h : isOdd a = true) : s.loadWord a = .error (.misalignedAccess a) := by
  simp [State.loadWord, h]

theorem loadWord_unpopulated (s : State) {a : Word} (h : isOdd a = false)
    (h1 : (s.readable a && s.readable (a + 1#16)) = false) : s.loadWord a = .error (.unpopulated a) := by
  simp only [State.loadWord, h, h1]; rfl

/-- What a byte read does. -/
theorem loadByte_ok (s : State) {a : Word} (h : s.readable a = true) : s.loadByte a = .ok (s.byteAt a) := by
  simp [State.loadByte, h]

theorem loadByte_unpopulated (s : State) {a : Word} (h : s.readable a = false) :
    s.loadByte a = .error (.unpopulated a) := by simp [State.loadByte, h]

/-- What a word write does (20_memory.md R53; 60_exceptions.md R342). -/
theorem storeWord_ok (s : State) {a : Word} (v : Word) (h : isOdd a = false) (h0 : s.writable a = true)
    (h1 : s.writable (a + 1#16) = true) : s.storeWord a v = .ok (s.setWord a v) := by simp [State.storeWord, h, h0, h1]

theorem storeWord_odd (s : State) {a : Word} (v : Word) (h : isOdd a = true) :
    s.storeWord a v = .error (.misalignedAccess a) := by simp [State.storeWord, h]

theorem storeWord_unpopulated (s : State) {a : Word} (v : Word) (h : isOdd a = false)
    (h1 : (s.writable a && s.writable (a + 1#16)) = false) : s.storeWord a v = .error (.unpopulated a) := by
  simp only [State.storeWord, h, h1]; rfl

/-- What a byte write does. -/
theorem storeByte_ok (s : State) {a : Word} (b : Byte) (h : s.writable a = true) :
    s.storeByte a b = .ok (s.setByte a b) := by simp [State.storeByte, h]

theorem storeByte_unpopulated (s : State) {a : Word} (b : Byte) (h : s.writable a = false) :
    s.storeByte a b = .error (.unpopulated a) := by simp [State.storeByte, h]

/-- If a word write answers, it was of two RAM bytes at an even address. -/
theorem storeWord_eq_ok {s t : State} {a v : Word} (h : s.storeWord a v = .ok t) :
    isOdd a = false ∧ s.writable a = true ∧ s.writable (a + 1#16) = true ∧ t = s.setWord a v := by
  unfold State.storeWord at h
  split at h
  · cases h
  · split at h
    · rename_i ho hw
      rw [Bool.and_eq_true] at hw
      exact ⟨by simpa using ho, hw.1, hw.2, by cases h; rfl⟩
    · cases h

/-- If a word read answers, it was of two populated bytes at an even address. -/
theorem loadWord_eq_ok {s : State} {a v : Word} (h : s.loadWord a = .ok v) :
    isOdd a = false ∧ s.readable a = true ∧ s.readable (a + 1#16) = true ∧ v = s.wordAt a := by
  unfold State.loadWord at h
  split at h
  · cases h
  · split at h
    · rename_i ho hw
      rw [Bool.and_eq_true] at hw
      exact ⟨by simpa using ho, hw.1, hw.2, by cases h; rfl⟩
    · cases h

/-- A byte that cannot be read is absent (20_memory.md R59). -/
theorem readable_eq_false {s : State} {a : Word} : s.readable a = false ↔ s.kindAt a = .absent := by
  cases h : s.kindAt a <;> simp [State.readable, h]

/-- A byte that cannot be written is not RAM (R59). -/
theorem writable_eq_false {s : State} {a : Word} : s.writable a = false ↔ s.kindAt a ≠ .ram := by
  cases h : s.kindAt a <;> simp [State.writable, h]

/-- Why a word read stops. -/
theorem loadWord_error {s : State} {a : Word} {f : Fault} (h : s.loadWord a = .error f) :
    (f = .misalignedAccess a ∧ isOdd a = true) ∨
      (f = .unpopulated a ∧ (s.kindAt a = .absent ∨ s.kindAt (a + 1#16) = .absent)) := by
  unfold State.loadWord at h
  split at h
  · exact .inl ⟨by cases h; rfl, ‹_›⟩
  · split at h <;> cases h
    rename_i hr
    rw [Bool.not_eq_true, Bool.and_eq_false_iff, readable_eq_false, readable_eq_false] at hr
    exact .inr ⟨rfl, hr⟩

/-- Why a byte read stops. -/
theorem loadByte_error {s : State} {a : Word} {f : Fault} (h : s.loadByte a = .error f) :
    f = .unpopulated a ∧ s.kindAt a = .absent := by
  unfold State.loadByte at h
  split at h <;> cases h
  rename_i hr
  exact ⟨rfl, readable_eq_false.1 (Bool.not_eq_true _ ▸ hr)⟩

/-- Why a word write stops. -/
theorem storeWord_error {s : State} {a v : Word} {f : Fault} (h : s.storeWord a v = .error f) :
    (f = .misalignedAccess a ∧ isOdd a = true) ∨
      (f = .unpopulated a ∧ (s.kindAt a ≠ .ram ∨ s.kindAt (a + 1#16) ≠ .ram)) := by
  unfold State.storeWord at h
  split at h
  · exact .inl ⟨by cases h; rfl, ‹_›⟩
  · split at h <;> cases h
    rename_i hr
    rw [Bool.not_eq_true, Bool.and_eq_false_iff, writable_eq_false, writable_eq_false] at hr
    exact .inr ⟨rfl, hr⟩

/-- Why a byte write stops. -/
theorem storeByte_error {s : State} {a : Word} {b : Byte} {f : Fault} (h : s.storeByte a b = .error f) :
    f = .unpopulated a ∧ s.kindAt a ≠ .ram := by
  unfold State.storeByte at h
  split at h <;> cases h
  rename_i hr
  exact ⟨rfl, writable_eq_false.1 (Bool.not_eq_true _ ▸ hr)⟩

/-! ### Endings: everything each can answer -/

theorem finish_next {s t : State} {rd : RegNum} {v len : Word} (h : s.finish rd v len = .next t) :
    t = (s.writeReg rd v).advance len := by cases h; rfl

theorem loadInto_next {s t : State} {rd : RegNum} {ea len : Word} (h : s.loadInto rd ea len = .next t) :
    isOdd ea = false ∧ s.readable ea = true ∧ s.readable (ea + 1#16) = true ∧
      t = (s.writeReg rd (s.wordAt ea)).advance len := by
  unfold State.loadInto at h
  split at h
  · rename_i v hv
    obtain ⟨h0, h1, h2, rfl⟩ := loadWord_eq_ok hv
    exact ⟨h0, h1, h2, finish_next h⟩
  · cases h

theorem loadByteInto_next {s t : State} {rd : RegNum} {ea : Word} {ext : Byte → Word}
    (h : s.loadByteInto rd ea ext = .next t) :
    s.readable ea = true ∧ t = (s.writeReg rd (ext (s.byteAt ea))).advance 2#16 := by
  unfold State.loadByteInto State.loadByte at h
  by_cases hr : s.readable ea = true
  · rw [if_pos hr] at h
    exact ⟨hr, finish_next h⟩
  · rw [if_neg hr] at h
    cases h

theorem storeFrom_next {s t : State} {ea v len : Word} (h : s.storeFrom ea v len = .next t) :
    isOdd ea = false ∧ s.writable ea = true ∧ s.writable (ea + 1#16) = true ∧ t = (s.setWord ea v).advance len := by
  unfold State.storeFrom at h
  split at h
  · rename_i u hu
    obtain ⟨h0, h1, h2, rfl⟩ := storeWord_eq_ok hu
    exact ⟨h0, h1, h2, by cases h; rfl⟩
  · cases h

theorem storeByteFrom_next {s t : State} {ea : Word} {b : Byte} (h : s.storeByteFrom ea b = .next t) :
    s.writable ea = true ∧ t = (s.setByte ea b).advance 2#16 := by
  unfold State.storeByteFrom State.storeByte at h
  by_cases hw : s.writable ea = true
  · rw [if_pos hw] at h
    exact ⟨hw, by cases h; rfl⟩
  · rw [if_neg hw] at h
    cases h

theorem portInto_next {s t : State} {rd : RegNum} {p : Byte} {len : Word} (h : s.portInto rd p len = .next t) :
    t = ((s.recordPort (.read p (s.portAnswer p))).writeReg rd (s.portAnswer p)).advance len := finish_next h

theorem portFrom_next {s t : State} {p : Byte} {v len : Word} (h : s.portFrom p v len = .next t) :
    t = (s.recordPort (.write p v)).advance len := by cases h; rfl

/-! ### The relation of I and IE (10_state.md R27) -/

theorem iOf_iOf (rel : IFlagRelation) (ie i : Bool) : rel.iOf ie (rel.iOf ie i) = rel.iOf ie i := by cases rel <;> rfl

theorem iOf_ieOf (rel : IFlagRelation) (i ie : Bool) : rel.iOf (rel.ieOf i ie) i = i := by cases rel <;> simp [IFlagRelation.iOf, IFlagRelation.ieOf]

/-! ### Fetch -/

/-- What a fetch can answer (20_memory.md R57). -/
theorem fetch_ok {s : State} {w0 w1 : Word} (h : s.fetch = .ok (w0, w1)) :
    isOdd s.pc = false ∧ s.readable s.pc = true ∧ s.readable (s.pc + 1#16) = true ∧ w0 = s.wordAt s.pc ∧
      w1 = (if isExtended w0 then s.wordAt (s.pc + 2#16) else 0#16) ∧
      (isExtended w0 = true → s.readable (s.pc + 2#16) = true ∧ s.readable (s.pc + 3#16) = true) := by
  unfold State.fetch at h
  split at h
  · cases h
  · rename_i ho
    split at h
    · rename_i hr
      rw [Bool.and_eq_true] at hr
      dsimp only at h
      by_cases hx : isExtended (s.wordAt s.pc) = true
      · rw [if_pos hx] at h
        by_cases hr2 : (s.readable (s.pc + 2#16) && s.readable (s.pc + 3#16)) = true
        · rw [if_pos hr2] at h
          rw [Bool.and_eq_true] at hr2
          cases h
          exact ⟨by simpa using ho, hr.1, hr.2, rfl, by rw [if_pos hx], fun _ => hr2⟩
        · rw [if_neg hr2] at h
          cases h
      · rw [if_neg hx] at h
        cases h
        exact ⟨by simpa using ho, hr.1, hr.2, rfl, by rw [if_neg hx], fun e => absurd e hx⟩
    · cases h

end Sys2Proof.Machine
end

