-- ==== Sys2Proof/Laws/Flags.lean ====
section
/-! SUPPORT. The FLAGS register: reading bits back from an assembled byte. -/

namespace Sys2Proof.Machine

/-- A bit that was put is read back; the others stay. -/
@[simp] theorem bitAt_putBit (f : Byte) (k q : Fin 8) (b : Bool) :
    bitAt (putBit f k b) q = if q = k then b else bitAt f q := by
  have hk := k.isLt
  have hq := q.isLt
  unfold bitAt putBit
  by_cases h : q = k
  · subst h
    cases b <;> simp [hq]
  · have hne : q.val ≠ k.val := fun e => h (Fin.ext e)
    have hbit : (1#8 <<< k.val).getLsbD q.val = false := by
      simp [hq]
      omega
    cases b
    · simp only [h, if_false, Bool.false_eq_true, BitVec.getLsbD_and, BitVec.getLsbD_not, hbit, hq]
      simp
    · simp only [h, if_false, if_true, BitVec.getLsbD_or, hbit, Bool.or_false]

/-- The layout's places are distinct (10_state.md R26). -/
theorem layout_distinct (l : FlagsLayout) :
    l.posN ≠ l.posZ ∧ l.posN ≠ l.posC ∧ l.posN ≠ l.posV ∧ l.posZ ≠ l.posC ∧ l.posZ ≠ l.posV ∧ l.posC ≠ l.posV ∧
      (∀ k, l.posI = some k → k ≠ l.posN ∧ k ≠ l.posZ ∧ k ≠ l.posC ∧ k ≠ l.posV) := by
  have h := l.distinct
  cases hI : l.posI with
  | none => simp [hI] at h; refine ⟨?_, ?_, ?_, ?_, ?_, ?_, by simp⟩ <;> tauto
  | some k =>
    simp [hI] at h
    refine ⟨?_, ?_, ?_, ?_, ?_, ?_, ?_⟩
    on_goal 7 =>
      intro k' e
      cases e
      refine ⟨?_, ?_, ?_, ?_⟩
    all_goals tauto

end Sys2Proof.Machine
end

