-- ==== Sys2Proof/Laws/PerInstr.lean ====
section
/-! SUPPORT. Facts about every instruction as syntax, one lemma per constructor. -/

namespace Sys2Proof.Laws

/-- The second word exists for opcode 0xF and for no other (30_encoding.md R80, R107), and the encoding is
`lengthBytes` long. -/
def EncodedForm.Statement (i : Instr) : Prop :=
  isExtended (firstWord i) = (secondWord i).isSome ∧ (encodeBytes i).length = i.lengthBytes

/-- The form, from the opcode of the first word. -/
theorem encodedForm_of {i : Instr} {op : Nibble} (h : opcodeOf (firstWord i) = op)
    (hx : (op == 0xF#4) = (secondWord i).isSome) : EncodedForm.Statement i := by
  refine ⟨by rw [isExtended, h, hx], ?_⟩
  unfold encodeBytes Instr.lengthBytes
  cases secondWord i <;> rfl

theorem EncodedForm.add (rd : RegNum) (rs1 : RegNum) (rs2 : RegNum) : EncodedForm.Statement (.add rd rs1 rs2) :=
  encodedForm_of (op := 0x0#4) (opcodeOf_wordOf _ _ _ _) rfl
theorem EncodedForm.sub (rd : RegNum) (rs1 : RegNum) (rs2 : RegNum) : EncodedForm.Statement (.sub rd rs1 rs2) :=
  encodedForm_of (op := 0x1#4) (opcodeOf_wordOf _ _ _ _) rfl
theorem EncodedForm.and (rd : RegNum) (rs1 : RegNum) (rs2 : RegNum) : EncodedForm.Statement (.and rd rs1 rs2) :=
  encodedForm_of (op := 0x2#4) (opcodeOf_wordOf _ _ _ _) rfl
theorem EncodedForm.or (rd : RegNum) (rs1 : RegNum) (rs2 : RegNum) : EncodedForm.Statement (.or rd rs1 rs2) :=
  encodedForm_of (op := 0x3#4) (opcodeOf_wordOf _ _ _ _) rfl
theorem EncodedForm.xor (rd : RegNum) (rs1 : RegNum) (rs2 : RegNum) : EncodedForm.Statement (.xor rd rs1 rs2) :=
  encodedForm_of (op := 0x4#4) (opcodeOf_wordOf _ _ _ _) rfl
theorem EncodedForm.addi (rd : RegNum) (imm8 : Byte) : EncodedForm.Statement (.addi rd imm8) :=
  encodedForm_of (op := 0x5#4) (opcodeOf_wordOfImm8 _ _ _) rfl
theorem EncodedForm.lw (rd : RegNum) (rs1 : RegNum) : EncodedForm.Statement (.lw rd rs1) :=
  encodedForm_of (op := 0x6#4) (opcodeOf_wordOf _ _ _ _) rfl
theorem EncodedForm.lb (rd : RegNum) (rs1 : RegNum) : EncodedForm.Statement (.lb rd rs1) :=
  encodedForm_of (op := 0x6#4) (opcodeOf_wordOf _ _ _ _) rfl
theorem EncodedForm.lbu (rd : RegNum) (rs1 : RegNum) : EncodedForm.Statement (.lbu rd rs1) :=
  encodedForm_of (op := 0x6#4) (opcodeOf_wordOf _ _ _ _) rfl
theorem EncodedForm.lwP2 (rd : RegNum) (rs1 : RegNum) : EncodedForm.Statement (.lwP2 rd rs1) :=
  encodedForm_of (op := 0x6#4) (opcodeOf_wordOf _ _ _ _) rfl
theorem EncodedForm.lwP4 (rd : RegNum) (rs1 : RegNum) : EncodedForm.Statement (.lwP4 rd rs1) :=
  encodedForm_of (op := 0x6#4) (opcodeOf_wordOf _ _ _ _) rfl
theorem EncodedForm.lwP6 (rd : RegNum) (rs1 : RegNum) : EncodedForm.Statement (.lwP6 rd rs1) :=
  encodedForm_of (op := 0x6#4) (opcodeOf_wordOf _ _ _ _) rfl
theorem EncodedForm.lwM2 (rd : RegNum) (rs1 : RegNum) : EncodedForm.Statement (.lwM2 rd rs1) :=
  encodedForm_of (op := 0x6#4) (opcodeOf_wordOf _ _ _ _) rfl
theorem EncodedForm.lwM4 (rd : RegNum) (rs1 : RegNum) : EncodedForm.Statement (.lwM4 rd rs1) :=
  encodedForm_of (op := 0x6#4) (opcodeOf_wordOf _ _ _ _) rfl
theorem EncodedForm.lui (rd : RegNum) (rs1 : RegNum) : EncodedForm.Statement (.lui rd rs1) :=
  encodedForm_of (op := 0x6#4) (opcodeOf_wordOf _ _ _ _) rfl
theorem EncodedForm.sw (rs2 : RegNum) (rs1 : RegNum) : EncodedForm.Statement (.sw rs2 rs1) :=
  encodedForm_of (op := 0x7#4) (opcodeOf_wordOf _ _ _ _) rfl
theorem EncodedForm.sb (rs2 : RegNum) (rs1 : RegNum) : EncodedForm.Statement (.sb rs2 rs1) :=
  encodedForm_of (op := 0x7#4) (opcodeOf_wordOf _ _ _ _) rfl
theorem EncodedForm.swP2 (rs2 : RegNum) (rs1 : RegNum) : EncodedForm.Statement (.swP2 rs2 rs1) :=
  encodedForm_of (op := 0x7#4) (opcodeOf_wordOf _ _ _ _) rfl
theorem EncodedForm.swP4 (rs2 : RegNum) (rs1 : RegNum) : EncodedForm.Statement (.swP4 rs2 rs1) :=
  encodedForm_of (op := 0x7#4) (opcodeOf_wordOf _ _ _ _) rfl
theorem EncodedForm.swP6 (rs2 : RegNum) (rs1 : RegNum) : EncodedForm.Statement (.swP6 rs2 rs1) :=
  encodedForm_of (op := 0x7#4) (opcodeOf_wordOf _ _ _ _) rfl
theorem EncodedForm.swM2 (rs2 : RegNum) (rs1 : RegNum) : EncodedForm.Statement (.swM2 rs2 rs1) :=
  encodedForm_of (op := 0x7#4) (opcodeOf_wordOf _ _ _ _) rfl
theorem EncodedForm.swM4 (rs2 : RegNum) (rs1 : RegNum) : EncodedForm.Statement (.swM4 rs2 rs1) :=
  encodedForm_of (op := 0x7#4) (opcodeOf_wordOf _ _ _ _) rfl
theorem EncodedForm.beq (offset8 : Byte) : EncodedForm.Statement (.beq offset8) :=
  encodedForm_of (op := 0x8#4) (opcodeOf_wordOfImm8 _ _ _) rfl
theorem EncodedForm.bne (offset8 : Byte) : EncodedForm.Statement (.bne offset8) :=
  encodedForm_of (op := 0x8#4) (opcodeOf_wordOfImm8 _ _ _) rfl
theorem EncodedForm.blt (offset8 : Byte) : EncodedForm.Statement (.blt offset8) :=
  encodedForm_of (op := 0x8#4) (opcodeOf_wordOfImm8 _ _ _) rfl
theorem EncodedForm.bge (offset8 : Byte) : EncodedForm.Statement (.bge offset8) :=
  encodedForm_of (op := 0x8#4) (opcodeOf_wordOfImm8 _ _ _) rfl
theorem EncodedForm.bltu (offset8 : Byte) : EncodedForm.Statement (.bltu offset8) :=
  encodedForm_of (op := 0x8#4) (opcodeOf_wordOfImm8 _ _ _) rfl
theorem EncodedForm.bgeu (offset8 : Byte) : EncodedForm.Statement (.bgeu offset8) :=
  encodedForm_of (op := 0x8#4) (opcodeOf_wordOfImm8 _ _ _) rfl
theorem EncodedForm.bmi (offset8 : Byte) : EncodedForm.Statement (.bmi offset8) :=
  encodedForm_of (op := 0x8#4) (opcodeOf_wordOfImm8 _ _ _) rfl
theorem EncodedForm.bpl (offset8 : Byte) : EncodedForm.Statement (.bpl offset8) :=
  encodedForm_of (op := 0x8#4) (opcodeOf_wordOfImm8 _ _ _) rfl
theorem EncodedForm.bvs (offset8 : Byte) : EncodedForm.Statement (.bvs offset8) :=
  encodedForm_of (op := 0x8#4) (opcodeOf_wordOfImm8 _ _ _) rfl
theorem EncodedForm.bvc (offset8 : Byte) : EncodedForm.Statement (.bvc offset8) :=
  encodedForm_of (op := 0x8#4) (opcodeOf_wordOfImm8 _ _ _) rfl
theorem EncodedForm.bcs (offset8 : Byte) : EncodedForm.Statement (.bcs offset8) :=
  encodedForm_of (op := 0x8#4) (opcodeOf_wordOfImm8 _ _ _) rfl
theorem EncodedForm.bcc (offset8 : Byte) : EncodedForm.Statement (.bcc offset8) :=
  encodedForm_of (op := 0x8#4) (opcodeOf_wordOfImm8 _ _ _) rfl
theorem EncodedForm.bgt (offset8 : Byte) : EncodedForm.Statement (.bgt offset8) :=
  encodedForm_of (op := 0x8#4) (opcodeOf_wordOfImm8 _ _ _) rfl
theorem EncodedForm.ble (offset8 : Byte) : EncodedForm.Statement (.ble offset8) :=
  encodedForm_of (op := 0x8#4) (opcodeOf_wordOfImm8 _ _ _) rfl
theorem EncodedForm.bhi (offset8 : Byte) : EncodedForm.Statement (.bhi offset8) :=
  encodedForm_of (op := 0x8#4) (opcodeOf_wordOfImm8 _ _ _) rfl
theorem EncodedForm.bls (offset8 : Byte) : EncodedForm.Statement (.bls offset8) :=
  encodedForm_of (op := 0x8#4) (opcodeOf_wordOfImm8 _ _ _) rfl
theorem EncodedForm.jalr (rd : RegNum) (rs : RegNum) : EncodedForm.Statement (.jalr rd rs) :=
  encodedForm_of (op := 0x9#4) (opcodeOf_wordOf _ _ _ _) rfl
theorem EncodedForm.jr (rs : RegNum) : EncodedForm.Statement (.jr rs) :=
  encodedForm_of (op := 0x9#4) (opcodeOf_wordOf _ _ _ _) rfl
theorem EncodedForm.j (offset12 : BitVec 12) : EncodedForm.Statement (.j offset12) :=
  encodedForm_of (op := 0x9#4) (opcodeOf_jump _) rfl
theorem EncodedForm.sll1 (rd : RegNum) (rs1 : RegNum) : EncodedForm.Statement (.sll1 rd rs1) :=
  encodedForm_of (op := 0xA#4) (opcodeOf_wordOf _ _ _ _) rfl
theorem EncodedForm.srl1 (rd : RegNum) (rs1 : RegNum) : EncodedForm.Statement (.srl1 rd rs1) :=
  encodedForm_of (op := 0xA#4) (opcodeOf_wordOf _ _ _ _) rfl
theorem EncodedForm.sra1 (rd : RegNum) (rs1 : RegNum) : EncodedForm.Statement (.sra1 rd rs1) :=
  encodedForm_of (op := 0xA#4) (opcodeOf_wordOf _ _ _ _) rfl
theorem EncodedForm.rol1 (rd : RegNum) (rs1 : RegNum) : EncodedForm.Statement (.rol1 rd rs1) :=
  encodedForm_of (op := 0xA#4) (opcodeOf_wordOf _ _ _ _) rfl
theorem EncodedForm.ror1 (rd : RegNum) (rs1 : RegNum) : EncodedForm.Statement (.ror1 rd rs1) :=
  encodedForm_of (op := 0xA#4) (opcodeOf_wordOf _ _ _ _) rfl
theorem EncodedForm.rcl (rd : RegNum) (rs1 : RegNum) : EncodedForm.Statement (.rcl rd rs1) :=
  encodedForm_of (op := 0xA#4) (opcodeOf_wordOf _ _ _ _) rfl
theorem EncodedForm.rcr (rd : RegNum) (rs1 : RegNum) : EncodedForm.Statement (.rcr rd rs1) :=
  encodedForm_of (op := 0xA#4) (opcodeOf_wordOf _ _ _ _) rfl
theorem EncodedForm.swap (rd : RegNum) (rs1 : RegNum) : EncodedForm.Statement (.swap rd rs1) :=
  encodedForm_of (op := 0xA#4) (opcodeOf_wordOf _ _ _ _) rfl
theorem EncodedForm.sll4 (rd : RegNum) (rs1 : RegNum) : EncodedForm.Statement (.sll4 rd rs1) :=
  encodedForm_of (op := 0xA#4) (opcodeOf_wordOf _ _ _ _) rfl
theorem EncodedForm.srl4 (rd : RegNum) (rs1 : RegNum) : EncodedForm.Statement (.srl4 rd rs1) :=
  encodedForm_of (op := 0xA#4) (opcodeOf_wordOf _ _ _ _) rfl
theorem EncodedForm.sra4 (rd : RegNum) (rs1 : RegNum) : EncodedForm.Statement (.sra4 rd rs1) :=
  encodedForm_of (op := 0xA#4) (opcodeOf_wordOf _ _ _ _) rfl
theorem EncodedForm.rol4 (rd : RegNum) (rs1 : RegNum) : EncodedForm.Statement (.rol4 rd rs1) :=
  encodedForm_of (op := 0xA#4) (opcodeOf_wordOf _ _ _ _) rfl
theorem EncodedForm.sll8 (rd : RegNum) (rs1 : RegNum) : EncodedForm.Statement (.sll8 rd rs1) :=
  encodedForm_of (op := 0xA#4) (opcodeOf_wordOf _ _ _ _) rfl
theorem EncodedForm.srl8 (rd : RegNum) (rs1 : RegNum) : EncodedForm.Statement (.srl8 rd rs1) :=
  encodedForm_of (op := 0xA#4) (opcodeOf_wordOf _ _ _ _) rfl
theorem EncodedForm.sra8 (rd : RegNum) (rs1 : RegNum) : EncodedForm.Statement (.sra8 rd rs1) :=
  encodedForm_of (op := 0xA#4) (opcodeOf_wordOf _ _ _ _) rfl
theorem EncodedForm.rol8 (rd : RegNum) (rs1 : RegNum) : EncodedForm.Statement (.rol8 rd rs1) :=
  encodedForm_of (op := 0xA#4) (opcodeOf_wordOf _ _ _ _) rfl
theorem EncodedForm.mul (rd : RegNum) (rs1 : RegNum) : EncodedForm.Statement (.mul rd rs1) :=
  encodedForm_of (op := 0xB#4) (opcodeOf_wordOf _ _ _ _) rfl
theorem EncodedForm.mulh (rd : RegNum) (rs1 : RegNum) : EncodedForm.Statement (.mulh rd rs1) :=
  encodedForm_of (op := 0xB#4) (opcodeOf_wordOf _ _ _ _) rfl
theorem EncodedForm.mulhu (rd : RegNum) (rs1 : RegNum) : EncodedForm.Statement (.mulhu rd rs1) :=
  encodedForm_of (op := 0xB#4) (opcodeOf_wordOf _ _ _ _) rfl
theorem EncodedForm.div (rd : RegNum) (rs1 : RegNum) : EncodedForm.Statement (.div rd rs1) :=
  encodedForm_of (op := 0xB#4) (opcodeOf_wordOf _ _ _ _) rfl
theorem EncodedForm.divu (rd : RegNum) (rs1 : RegNum) : EncodedForm.Statement (.divu rd rs1) :=
  encodedForm_of (op := 0xB#4) (opcodeOf_wordOf _ _ _ _) rfl
theorem EncodedForm.rem (rd : RegNum) (rs1 : RegNum) : EncodedForm.Statement (.rem rd rs1) :=
  encodedForm_of (op := 0xB#4) (opcodeOf_wordOf _ _ _ _) rfl
theorem EncodedForm.remu (rd : RegNum) (rs1 : RegNum) : EncodedForm.Statement (.remu rd rs1) :=
  encodedForm_of (op := 0xB#4) (opcodeOf_wordOf _ _ _ _) rfl
theorem EncodedForm.daa (rd : RegNum) : EncodedForm.Statement (.daa rd) :=
  encodedForm_of (op := 0xB#4) (opcodeOf_wordOf _ _ _ _) rfl
theorem EncodedForm.push (rs1 : RegNum) : EncodedForm.Statement (.push rs1) :=
  encodedForm_of (op := 0xC#4) (opcodeOf_wordOf _ _ _ _) rfl
theorem EncodedForm.pop (rd : RegNum) : EncodedForm.Statement (.pop rd) :=
  encodedForm_of (op := 0xC#4) (opcodeOf_wordOf _ _ _ _) rfl
theorem EncodedForm.cmp (rd : RegNum) (rs1 : RegNum) : EncodedForm.Statement (.cmp rd rs1) :=
  encodedForm_of (op := 0xC#4) (opcodeOf_wordOf _ _ _ _) rfl
theorem EncodedForm.test (rd : RegNum) (rs1 : RegNum) : EncodedForm.Statement (.test rd rs1) :=
  encodedForm_of (op := 0xC#4) (opcodeOf_wordOf _ _ _ _) rfl
theorem EncodedForm.mov (rd : RegNum) (rs1 : RegNum) : EncodedForm.Statement (.mov rd rs1) :=
  encodedForm_of (op := 0xC#4) (opcodeOf_wordOf _ _ _ _) rfl
theorem EncodedForm.ldi : EncodedForm.Statement .ldi :=
  encodedForm_of (op := 0xC#4) (opcodeOf_wordOf _ _ _ _) rfl
theorem EncodedForm.ldd : EncodedForm.Statement .ldd :=
  encodedForm_of (op := 0xC#4) (opcodeOf_wordOf _ _ _ _) rfl
theorem EncodedForm.ldir : EncodedForm.Statement .ldir :=
  encodedForm_of (op := 0xC#4) (opcodeOf_wordOf _ _ _ _) rfl
theorem EncodedForm.lddr : EncodedForm.Statement .lddr :=
  encodedForm_of (op := 0xC#4) (opcodeOf_wordOf _ _ _ _) rfl
theorem EncodedForm.cpir : EncodedForm.Statement .cpir :=
  encodedForm_of (op := 0xC#4) (opcodeOf_wordOf _ _ _ _) rfl
theorem EncodedForm.fill : EncodedForm.Statement .fill :=
  encodedForm_of (op := 0xC#4) (opcodeOf_wordOf _ _ _ _) rfl
theorem EncodedForm.exx : EncodedForm.Statement .exx :=
  encodedForm_of (op := 0xC#4) (opcodeOf_wordOf _ _ _ _) rfl
theorem EncodedForm.getf (rd : RegNum) : EncodedForm.Statement (.getf rd) :=
  encodedForm_of (op := 0xC#4) (opcodeOf_wordOf _ _ _ _) rfl
theorem EncodedForm.setf (rs1 : RegNum) : EncodedForm.Statement (.setf rs1) :=
  encodedForm_of (op := 0xC#4) (opcodeOf_wordOf _ _ _ _) rfl
theorem EncodedForm.ini (rd : RegNum) (port : Nibble) : EncodedForm.Statement (.ini rd port) :=
  encodedForm_of (op := 0xD#4) (opcodeOf_wordOf _ _ _ _) rfl
theorem EncodedForm.outi (rd : RegNum) (port : Nibble) : EncodedForm.Statement (.outi rd port) :=
  encodedForm_of (op := 0xD#4) (opcodeOf_wordOf _ _ _ _) rfl
theorem EncodedForm.inp (rd : RegNum) (rs1 : RegNum) : EncodedForm.Statement (.inp rd rs1) :=
  encodedForm_of (op := 0xD#4) (opcodeOf_wordOf _ _ _ _) rfl
theorem EncodedForm.out (rd : RegNum) (rs1 : RegNum) : EncodedForm.Statement (.out rd rs1) :=
  encodedForm_of (op := 0xD#4) (opcodeOf_wordOf _ _ _ _) rfl
theorem EncodedForm.nop : EncodedForm.Statement .nop :=
  encodedForm_of (op := 0xE#4) (opcodeOf_wordOfImm8 _ _ _) rfl
theorem EncodedForm.halt : EncodedForm.Statement .halt :=
  encodedForm_of (op := 0xE#4) (opcodeOf_wordOfImm8 _ _ _) rfl
theorem EncodedForm.di : EncodedForm.Statement .di :=
  encodedForm_of (op := 0xE#4) (opcodeOf_wordOfImm8 _ _ _) rfl
theorem EncodedForm.ei : EncodedForm.Statement .ei :=
  encodedForm_of (op := 0xE#4) (opcodeOf_wordOfImm8 _ _ _) rfl
theorem EncodedForm.reti : EncodedForm.Statement .reti :=
  encodedForm_of (op := 0xE#4) (opcodeOf_wordOfImm8 _ _ _) rfl
theorem EncodedForm.scf : EncodedForm.Statement .scf :=
  encodedForm_of (op := 0xE#4) (opcodeOf_wordOfImm8 _ _ _) rfl
theorem EncodedForm.ccf : EncodedForm.Statement .ccf :=
  encodedForm_of (op := 0xE#4) (opcodeOf_wordOfImm8 _ _ _) rfl
theorem EncodedForm.sei : EncodedForm.Statement .sei :=
  encodedForm_of (op := 0xE#4) (opcodeOf_wordOfImm8 _ _ _) rfl
theorem EncodedForm.cli : EncodedForm.Statement .cli :=
  encodedForm_of (op := 0xE#4) (opcodeOf_wordOfImm8 _ _ _) rfl
theorem EncodedForm.swi (imm8 : Byte) : EncodedForm.Statement (.swi imm8) :=
  encodedForm_of (op := 0xE#4) (opcodeOf_wordOfImm8 _ _ _) rfl
theorem EncodedForm.addix (rd : RegNum) (rs1 : RegNum) (imm16 : Word) : EncodedForm.Statement (.addix rd rs1 imm16) :=
  encodedForm_of (op := 0xF#4) (opcodeOf_wordOf _ _ _ _) rfl
theorem EncodedForm.subix (rd : RegNum) (rs1 : RegNum) (imm16 : Word) : EncodedForm.Statement (.subix rd rs1 imm16) :=
  encodedForm_of (op := 0xF#4) (opcodeOf_wordOf _ _ _ _) rfl
theorem EncodedForm.andix (rd : RegNum) (rs1 : RegNum) (imm16 : Word) : EncodedForm.Statement (.andix rd rs1 imm16) :=
  encodedForm_of (op := 0xF#4) (opcodeOf_wordOf _ _ _ _) rfl
theorem EncodedForm.orix (rd : RegNum) (rs1 : RegNum) (imm16 : Word) : EncodedForm.Statement (.orix rd rs1 imm16) :=
  encodedForm_of (op := 0xF#4) (opcodeOf_wordOf _ _ _ _) rfl
theorem EncodedForm.xorix (rd : RegNum) (rs1 : RegNum) (imm16 : Word) : EncodedForm.Statement (.xorix rd rs1 imm16) :=
  encodedForm_of (op := 0xF#4) (opcodeOf_wordOf _ _ _ _) rfl
theorem EncodedForm.lwx (rd : RegNum) (rs1 : RegNum) (imm16 : Word) : EncodedForm.Statement (.lwx rd rs1 imm16) :=
  encodedForm_of (op := 0xF#4) (opcodeOf_wordOf _ _ _ _) rfl
theorem EncodedForm.swx (rd : RegNum) (rs1 : RegNum) (imm16 : Word) : EncodedForm.Statement (.swx rd rs1 imm16) :=
  encodedForm_of (op := 0xF#4) (opcodeOf_wordOf _ _ _ _) rfl
theorem EncodedForm.lix (rd : RegNum) (imm16 : Word) : EncodedForm.Statement (.lix rd imm16) :=
  encodedForm_of (op := 0xF#4) (opcodeOf_wordOf _ _ _ _) rfl
theorem EncodedForm.jx (addr16 : Word) : EncodedForm.Statement (.jx addr16) :=
  encodedForm_of (op := 0xF#4) (opcodeOf_wordOf _ _ _ _) rfl
theorem EncodedForm.jalx (addr16 : Word) : EncodedForm.Statement (.jalx addr16) :=
  encodedForm_of (op := 0xF#4) (opcodeOf_wordOf _ _ _ _) rfl
theorem EncodedForm.cmpix (rd : RegNum) (imm16 : Word) : EncodedForm.Statement (.cmpix rd imm16) :=
  encodedForm_of (op := 0xF#4) (opcodeOf_wordOf _ _ _ _) rfl
theorem EncodedForm.inx (rd : RegNum) (port8 : Byte) : EncodedForm.Statement (.inx rd port8) :=
  encodedForm_of (op := 0xF#4) (opcodeOf_wordOf _ _ _ _) rfl
theorem EncodedForm.outx (rs1 : RegNum) (port8 : Byte) : EncodedForm.Statement (.outx rs1 port8) :=
  encodedForm_of (op := 0xF#4) (opcodeOf_wordOf _ _ _ _) rfl
theorem EncodedForm.sllx (rd : RegNum) (rs1 : RegNum) (imm4 : Nibble) : EncodedForm.Statement (.sllx rd rs1 imm4) :=
  encodedForm_of (op := 0xF#4) (opcodeOf_wordOf _ _ _ _) rfl
theorem EncodedForm.srlx (rd : RegNum) (rs1 : RegNum) (imm4 : Nibble) : EncodedForm.Statement (.srlx rd rs1 imm4) :=
  encodedForm_of (op := 0xF#4) (opcodeOf_wordOf _ _ _ _) rfl
theorem EncodedForm.srax (rd : RegNum) (rs1 : RegNum) (imm4 : Nibble) : EncodedForm.Statement (.srax rd rs1 imm4) :=
  encodedForm_of (op := 0xF#4) (opcodeOf_wordOf _ _ _ _) rfl

end Sys2Proof.Laws
end

