-- ==== Sys2Proof/Laws/Step.lean ====
section
/-! SUPPORT. What a step can do, said once. -/

namespace Sys2Proof.Machine

/-- If a step answers next, the core is halted and nothing changed, or it fetched words that decode to an instruction
whose meaning answers that state. -/
theorem step_next {s t : State} (h : step s = .next t) :
    (s.halted = true ∧ t = s) ∨
      (s.halted = false ∧ ∃ w0 w1 i, s.fetch = .ok (w0, w1) ∧ decodeWords w0 w1 = some i ∧ exec i s = .next t) := by
  unfold step at h
  cases hh : s.halted with
  | true =>
    rw [hh, if_pos rfl] at h
    exact .inl ⟨rfl, by cases h; rfl⟩
  | false =>
    rw [hh] at h
    right
    refine ⟨rfl, ?_⟩
    cases hf : s.fetch with
    | error f => rw [hf] at h; cases h
    | ok p =>
      obtain ⟨w0, w1⟩ := p
      rw [hf] at h
      cases hd : decodeWords w0 w1 with
      | none => simp [hd] at h
      | some i => exact ⟨w0, w1, i, rfl, hd, by simpa [hd] using h⟩

/-- A step of a running core is the meaning of the instruction its fetch decodes to. -/
theorem step_eq_exec {s : State} {w0 w1 : Word} {i : Instr} (hh : s.halted = false) (hf : s.fetch = .ok (w0, w1))
    (hd : decodeWords w0 w1 = some i) : step s = exec i s := by
  simp [step, hh, hf, hd]

end Sys2Proof.Machine
end

