-- ==== Sys2Proof/Machine/Assembler.lean ====
section
/-! DEFINITION. What the spec says of assembler text (30_encoding.md R108 to R112): the operand shapes, the register
names, the unit of branch and jump operands, and the two aliases. The spec gives no grammar, directives or labels
(91_not_in_source.md N26), so there is no parser. The machine does not use this file. -/

namespace Sys2Proof.Machine

/-- `R0` to `R15` (R109). -/
def regName (r : RegNum) : String := "R" ++ toString r.toNat

/-- The register's other name (10_state.md R21). -/
def regAlias (r : RegNum) : String :=
  ["ZERO", "RA", "SP", "GP", "A0", "A1", "A2", "A3", "T0", "T1", "T2", "T3", "S0", "S1", "S2", "S3"].getD r.toNat ""

/-- A signed displacement as the examples write it: `+8`, `-100` (R110). -/
def signedText (d : Int) : String := if d < 0 then toString d else "+" ++ toString d

/-- The operand of a branch: its byte displacement from `pc + 2` (R110). -/
def branchOperand (offset8 : Byte) : Int := 2 * offset8.toInt

/-- The operand of J: its byte displacement from `pc + 2` (R110). -/
def jumpOperand (offset12 : BitVec 12) : Int := 2 * offset12.toInt

/-- The offset field of a branch whose operand is `disp`: even, in -256 to +254 (R110). -/
def branchField (disp : Int) : Option Byte :=
  if disp % 2 = 0 ∧ -256 ≤ disp ∧ disp ≤ 254 then some (BitVec.ofInt 8 (disp / 2)) else none

/-- The offset field of a J whose operand is `disp`: even, in -4096 to +4094, and encodable (R102, R110). -/
def jumpField (disp : Int) : Option (BitVec 12) :=
  if disp % 2 = 0 ∧ -4096 ≤ disp ∧ disp ≤ 4094 ∧ (Instr.j (BitVec.ofInt 12 (disp / 2))).wellFormed = true then
    some (BitVec.ofInt 12 (disp / 2))
  else none

/-- `INI Rd, port` as an assembler emits it: INX where the port does not fit 4 bits (R111 b). -/
def assembleIni (rd : RegNum) (port : Byte) : Instr :=
  if port.toNat < 16 then .ini rd (port.extractLsb' 0 4) else .inx rd port

/-- `OUTI port, Rd`: OUTX where the port does not fit 4 bits (R111 b, by symmetry). -/
def assembleOuti (port : Byte) (rd : RegNum) : Instr :=
  if port.toNat < 16 then .outi rd (port.extractLsb' 0 4) else .outx rd port

/-- `JAL target` (R111 a). -/
def assembleJal (target : Word) : Instr := .jalx target

/-- An operation and its operands, separated by commas. -/
def line (op : String) (operands : List String) : String :=
  if operands = [] then op else op ++ " " ++ String.intercalate ", " operands

/-- `d(Rs1)`, and `(Rs1)` for the displacement 0 (R108). -/
def based (d : String) (rs1 : RegNum) : String := d ++ "(" ++ regName rs1 ++ ")"

/-- The instruction as assembler text (R108). Numbers are decimal. -/
def asmText (i : Instr) : String :=
  match i with
  | .add rd rs1 rs2 => line "ADD" [regName rd, regName rs1, regName rs2]
  | .sub rd rs1 rs2 => line "SUB" [regName rd, regName rs1, regName rs2]
  | .and rd rs1 rs2 => line "AND" [regName rd, regName rs1, regName rs2]
  | .or rd rs1 rs2 => line "OR" [regName rd, regName rs1, regName rs2]
  | .xor rd rs1 rs2 => line "XOR" [regName rd, regName rs1, regName rs2]
  | .addi rd imm8 => line "ADDI" [regName rd, toString imm8.toInt]
  | .lw rd rs1 => line "LW" [regName rd, based "" rs1]
  | .lb rd rs1 => line "LB" [regName rd, based "" rs1]
  | .lbu rd rs1 => line "LBU" [regName rd, based "" rs1]
  | .lwP2 rd rs1 => line "LW" [regName rd, based "2" rs1]
  | .lwP4 rd rs1 => line "LW" [regName rd, based "4" rs1]
  | .lwP6 rd rs1 => line "LW" [regName rd, based "6" rs1]
  | .lwM2 rd rs1 => line "LW" [regName rd, based "-2" rs1]
  | .lwM4 rd rs1 => line "LW" [regName rd, based "-4" rs1]
  | .lui rd rs1 => line "LUI" [regName rd, regName rs1]
  | .sw rs2 rs1 => line "SW" [based "" rs1, regName rs2]
  | .sb rs2 rs1 => line "SB" [based "" rs1, regName rs2]
  | .swP2 rs2 rs1 => line "SW" [based "2" rs1, regName rs2]
  | .swP4 rs2 rs1 => line "SW" [based "4" rs1, regName rs2]
  | .swP6 rs2 rs1 => line "SW" [based "6" rs1, regName rs2]
  | .swM2 rs2 rs1 => line "SW" [based "-2" rs1, regName rs2]
  | .swM4 rs2 rs1 => line "SW" [based "-4" rs1, regName rs2]
  | .beq offset8 => line "BEQ" [signedText (branchOperand offset8)]
  | .bne offset8 => line "BNE" [signedText (branchOperand offset8)]
  | .blt offset8 => line "BLT" [signedText (branchOperand offset8)]
  | .bge offset8 => line "BGE" [signedText (branchOperand offset8)]
  | .bltu offset8 => line "BLTU" [signedText (branchOperand offset8)]
  | .bgeu offset8 => line "BGEU" [signedText (branchOperand offset8)]
  | .bmi offset8 => line "BMI" [signedText (branchOperand offset8)]
  | .bpl offset8 => line "BPL" [signedText (branchOperand offset8)]
  | .bvs offset8 => line "BVS" [signedText (branchOperand offset8)]
  | .bvc offset8 => line "BVC" [signedText (branchOperand offset8)]
  | .bcs offset8 => line "BCS" [signedText (branchOperand offset8)]
  | .bcc offset8 => line "BCC" [signedText (branchOperand offset8)]
  | .bgt offset8 => line "BGT" [signedText (branchOperand offset8)]
  | .ble offset8 => line "BLE" [signedText (branchOperand offset8)]
  | .bhi offset8 => line "BHI" [signedText (branchOperand offset8)]
  | .bls offset8 => line "BLS" [signedText (branchOperand offset8)]
  | .jalr rd rs => line "JALR" [regName rd, regName rs]
  | .jr rs => line "JR" [regName rs]
  | .j offset12 => line "J" [signedText (jumpOperand offset12)]
  | .sll1 rd rs1 => line "SLL" [regName rd, regName rs1, "1"]
  | .srl1 rd rs1 => line "SRL" [regName rd, regName rs1, "1"]
  | .sra1 rd rs1 => line "SRA" [regName rd, regName rs1, "1"]
  | .rol1 rd rs1 => line "ROL" [regName rd, regName rs1, "1"]
  | .ror1 rd rs1 => line "ROR" [regName rd, regName rs1, "1"]
  | .rcl rd rs1 => line "RCL" [regName rd, regName rs1, "1"]
  | .rcr rd rs1 => line "RCR" [regName rd, regName rs1, "1"]
  | .swap rd rs1 => line "SWAP" [regName rd, regName rs1]
  | .sll4 rd rs1 => line "SLL" [regName rd, regName rs1, "4"]
  | .srl4 rd rs1 => line "SRL" [regName rd, regName rs1, "4"]
  | .sra4 rd rs1 => line "SRA" [regName rd, regName rs1, "4"]
  | .rol4 rd rs1 => line "ROL" [regName rd, regName rs1, "4"]
  | .sll8 rd rs1 => line "SLL" [regName rd, regName rs1, "8"]
  | .srl8 rd rs1 => line "SRL" [regName rd, regName rs1, "8"]
  | .sra8 rd rs1 => line "SRA" [regName rd, regName rs1, "8"]
  | .rol8 rd rs1 => line "ROL" [regName rd, regName rs1, "8"]
  | .mul rd rs1 => line "MUL" [regName rd, regName rs1]
  | .mulh rd rs1 => line "MULH" [regName rd, regName rs1]
  | .mulhu rd rs1 => line "MULHU" [regName rd, regName rs1]
  | .div rd rs1 => line "DIV" [regName rd, regName rs1]
  | .divu rd rs1 => line "DIVU" [regName rd, regName rs1]
  | .rem rd rs1 => line "REM" [regName rd, regName rs1]
  | .remu rd rs1 => line "REMU" [regName rd, regName rs1]
  | .daa rd => line "DAA" [regName rd]
  | .push rs1 => line "PUSH" [regName rs1]
  | .pop rd => line "POP" [regName rd]
  | .cmp rd rs1 => line "CMP" [regName rd, regName rs1]
  | .test rd rs1 => line "TEST" [regName rd, regName rs1]
  | .mov rd rs1 => line "MOV" [regName rd, regName rs1]
  | .ldi => line "LDI" []
  | .ldd => line "LDD" []
  | .ldir => line "LDIR" []
  | .lddr => line "LDDR" []
  | .cpir => line "CPIR" []
  | .fill => line "FILL" []
  | .exx => line "EXX" []
  | .getf rd => line "GETF" [regName rd]
  | .setf rs1 => line "SETF" [regName rs1]
  | .ini rd port => line "INI" [regName rd, toString port.toNat]
  | .outi rd port => line "OUTI" [toString port.toNat, regName rd]
  | .inp rd rs1 => line "IN" [regName rd, based "" rs1]
  | .out rd rs1 => line "OUT" [based "" rs1, regName rd]
  | .nop => line "NOP" []
  | .halt => line "HALT" []
  | .di => line "DI" []
  | .ei => line "EI" []
  | .reti => line "RETI" []
  | .scf => line "SCF" []
  | .ccf => line "CCF" []
  | .sei => line "SEI" []
  | .cli => line "CLI" []
  | .swi imm8 => line "SWI" [toString imm8.toNat]
  | .addix rd rs1 imm16 => line "ADDIX" [regName rd, regName rs1, toString imm16.toNat]
  | .subix rd rs1 imm16 => line "SUBIX" [regName rd, regName rs1, toString imm16.toNat]
  | .andix rd rs1 imm16 => line "ANDIX" [regName rd, regName rs1, toString imm16.toNat]
  | .orix rd rs1 imm16 => line "ORIX" [regName rd, regName rs1, toString imm16.toNat]
  | .xorix rd rs1 imm16 => line "XORIX" [regName rd, regName rs1, toString imm16.toNat]
  | .lwx rd rs1 imm16 => line "LWX" [regName rd, based (toString imm16.toNat) rs1]
  | .swx rd rs1 imm16 => line "SWX" [regName rd, based (toString imm16.toNat) rs1]
  | .lix rd imm16 => line "LIX" [regName rd, toString imm16.toNat]
  | .jx addr16 => line "JX" [toString addr16.toNat]
  | .jalx addr16 => line "JALX" [toString addr16.toNat]
  | .cmpix rd imm16 => line "CMPIX" [regName rd, toString imm16.toNat]
  | .inx rd port8 => line "INX" [regName rd, toString port8.toNat]
  | .outx rs1 port8 => line "OUTX" [toString port8.toNat, regName rs1]
  | .sllx rd rs1 imm4 => line "SLLX" [regName rd, regName rs1, toString imm4.toNat]
  | .srlx rd rs1 imm4 => line "SRLX" [regName rd, regName rs1, toString imm4.toNat]
  | .srax rd rs1 imm4 => line "SRAX" [regName rd, regName rs1, toString imm4.toNat]

end Sys2Proof.Machine
end

