-- ==== Sys2Proof/Tests/Slice0.lean ====
section
/-! SUPPORT. Tests. The words of the decode tests are written out from the formats of 30_encoding.md and the func, cond
and sub values of the instruction tables; the one-step tests are rows V<n> of 95_test_vectors.md, section 2, their
expected values copied from there. The witnesses show that the hypotheses of the statements can be met. -/

namespace Sys2Proof.Tests

open Sys2Proof.Machine

/-! ### Helpers -/

/-- NZCV as one number. -/
def flagsOf (n : Nat) : Flags := { n := n.testBit 3, z := n.testBit 2, c := n.testBit 1, v := n.testBit 0 }

/-- The reset state with a pc, flags, registers and bytes of its own. -/
def state (pc : Word) (nzcv : Nat) (regs : List (RegNum × Word)) (bytes : List (Word × Byte)) : State :=
  bytes.foldl (fun s w => s.setByte w.1 w.2)
    (regs.foldl (fun s w => s.writeReg w.1 w.2) { State.reset with pc := pc, flags := flagsOf nzcv })

/-- The two words stored where the next fetch reads them. -/
def placed (w0 w1 : Word) (s : State) : State := s.withFetchWord 32 (w0.toNat + 65536 * w1.toNat)

/-- What one step leaves in pc, NZCV, some registers and some bytes. -/
def after (w0 w1 : Word) (s : State) (rs : List RegNum) (as : List Word) :
    Option (Word × Nat × List Word × List Byte) :=
  match step (placed w0 w1 s) with
  | .next t => some (t.pc, t.flags.nzcv, rs.map t.readReg, as.map t.byteAt)
  | _ => none

/-- The stop of one step. -/
def stopAfter (w0 w1 : Word) (s : State) : Option Fault :=
  match step (placed w0 w1 s) with
  | .fault f => some f
  | _ => none

/-- A property of the state one step leaves. -/
def holdsAfter (w0 w1 : Word) (s : State) (p : State → Bool) : Bool :=
  match step (placed w0 w1 s) with
  | .next t => p t
  | _ => false

/-- The ports read, newest first. -/
def portsRead (t : State) : List Byte :=
  t.portTrace.filterMap fun e => match e with
    | .read p _ => some p
    | .write _ _ => none

/-- Each pair of words decodes to the instruction beside it. -/
def decodesTo (rows : List (Word × Word × Instr)) : Bool := rows.all fun r => decodeWords r.1 r.2.1 == some r.2.2

/-! ### WellFormed: a J for each check, refused (30_encoding.md R102) -/

theorem test_wellFormed_refuses_jalr_pattern : (Instr.j 0x011#12).wellFormed = false := by decide
theorem test_wellFormed_refuses_jr_pattern : (Instr.j 0xFF0#12).wellFormed = false := by decide
theorem test_wellFormed_accepts_neighbours :
    ((Instr.j 0x010#12).wellFormed && (Instr.j 0xEF0#12).wellFormed && (Instr.j 0xFF2#12).wellFormed) = true := by decide
theorem test_encode_refuses : encode (.j 0x011#12) = none ∧ encode (.j 0xF00#12) = none := by decide

/-! ### Decoding: every constructor, each word bit by bit -/

theorem test_decode_alu : decodesTo [
    (0b0000_1101_0011_1001#16, 0#16, .add 0xD#4 0x3#4 0x9#4),
    (0b0001_1101_0011_1001#16, 0#16, .sub 0xD#4 0x3#4 0x9#4),
    (0b0010_1101_0011_1001#16, 0#16, .and 0xD#4 0x3#4 0x9#4),
    (0b0011_1101_0011_1001#16, 0#16, .or 0xD#4 0x3#4 0x9#4),
    (0b0100_1101_0011_1001#16, 0#16, .xor 0xD#4 0x3#4 0x9#4),
    (0b0101_1101_1001_1100#16, 0#16, .addi 0xD#4 0x9C#8)] = true := by decide
theorem test_decode_load : decodesTo [
    (0b0110_1101_0011_0000#16, 0#16, .lw 0xD#4 0x3#4),
    (0b0110_1101_0011_0001#16, 0#16, .lb 0xD#4 0x3#4),
    (0b0110_1101_0011_0010#16, 0#16, .lbu 0xD#4 0x3#4),
    (0b0110_1101_0011_0011#16, 0#16, .lwP2 0xD#4 0x3#4),
    (0b0110_1101_0011_0100#16, 0#16, .lwP4 0xD#4 0x3#4),
    (0b0110_1101_0011_0101#16, 0#16, .lwP6 0xD#4 0x3#4),
    (0b0110_1101_0011_0110#16, 0#16, .lwM2 0xD#4 0x3#4),
    (0b0110_1101_0011_0111#16, 0#16, .lwM4 0xD#4 0x3#4),
    (0b0110_1101_0011_1000#16, 0#16, .lui 0xD#4 0x3#4)] = true := by decide
theorem test_decode_store : decodesTo [
    (0b0111_1001_0011_0000#16, 0#16, .sw 0x9#4 0x3#4),
    (0b0111_1001_0011_0001#16, 0#16, .sb 0x9#4 0x3#4),
    (0b0111_1001_0011_0010#16, 0#16, .swP2 0x9#4 0x3#4),
    (0b0111_1001_0011_0011#16, 0#16, .swP4 0x9#4 0x3#4),
    (0b0111_1001_0011_0100#16, 0#16, .swP6 0x9#4 0x3#4),
    (0b0111_1001_0011_0101#16, 0#16, .swM2 0x9#4 0x3#4),
    (0b0111_1001_0011_0110#16, 0#16, .swM4 0x9#4 0x3#4)] = true := by decide
theorem test_decode_branch : decodesTo [
    (0b1000_0000_1001_1100#16, 0#16, .beq 0x9C#8),
    (0b1000_0001_1001_1100#16, 0#16, .bne 0x9C#8),
    (0b1000_0010_1001_1100#16, 0#16, .blt 0x9C#8),
    (0b1000_0011_1001_1100#16, 0#16, .bge 0x9C#8),
    (0b1000_0100_1001_1100#16, 0#16, .bltu 0x9C#8),
    (0b1000_0101_1001_1100#16, 0#16, .bgeu 0x9C#8),
    (0b1000_0110_1001_1100#16, 0#16, .bmi 0x9C#8),
    (0b1000_0111_1001_1100#16, 0#16, .bpl 0x9C#8),
    (0b1000_1000_1001_1100#16, 0#16, .bvs 0x9C#8),
    (0b1000_1001_1001_1100#16, 0#16, .bvc 0x9C#8),
    (0b1000_1010_1001_1100#16, 0#16, .bcs 0x9C#8),
    (0b1000_1011_1001_1100#16, 0#16, .bcc 0x9C#8),
    (0b1000_1100_1001_1100#16, 0#16, .bgt 0x9C#8),
    (0b1000_1101_1001_1100#16, 0#16, .ble 0x9C#8),
    (0b1000_1110_1001_1100#16, 0#16, .bhi 0x9C#8),
    (0b1000_1111_1001_1100#16, 0#16, .bls 0x9C#8)] = true := by decide
theorem test_decode_jump : decodesTo [
    (0b1001_1101_1010_0001#16, 0#16, .jalr 0xD#4 0xA#4),
    (0b1001_1111_1010_0000#16, 0#16, .jr 0xA#4),
    (0b1001_1000_1100_0100#16, 0#16, .j 0x8C4#12)] = true := by decide
theorem test_decode_shift : decodesTo [
    (0b1010_1101_0011_0000#16, 0#16, .sll1 0xD#4 0x3#4),
    (0b1010_1101_0011_0001#16, 0#16, .srl1 0xD#4 0x3#4),
    (0b1010_1101_0011_0010#16, 0#16, .sra1 0xD#4 0x3#4),
    (0b1010_1101_0011_0011#16, 0#16, .rol1 0xD#4 0x3#4),
    (0b1010_1101_0011_0100#16, 0#16, .ror1 0xD#4 0x3#4),
    (0b1010_1101_0011_0101#16, 0#16, .rcl 0xD#4 0x3#4),
    (0b1010_1101_0011_0110#16, 0#16, .rcr 0xD#4 0x3#4),
    (0b1010_1101_0011_0111#16, 0#16, .swap 0xD#4 0x3#4),
    (0b1010_1101_0011_1000#16, 0#16, .sll4 0xD#4 0x3#4),
    (0b1010_1101_0011_1001#16, 0#16, .srl4 0xD#4 0x3#4),
    (0b1010_1101_0011_1010#16, 0#16, .sra4 0xD#4 0x3#4),
    (0b1010_1101_0011_1011#16, 0#16, .rol4 0xD#4 0x3#4),
    (0b1010_1101_0011_1100#16, 0#16, .sll8 0xD#4 0x3#4),
    (0b1010_1101_0011_1101#16, 0#16, .srl8 0xD#4 0x3#4),
    (0b1010_1101_0011_1110#16, 0#16, .sra8 0xD#4 0x3#4),
    (0b1010_1101_0011_1111#16, 0#16, .rol8 0xD#4 0x3#4)] = true := by decide
theorem test_decode_muldiv : decodesTo [
    (0b1011_1101_0011_0000#16, 0#16, .mul 0xD#4 0x3#4),
    (0b1011_1101_0011_0001#16, 0#16, .mulh 0xD#4 0x3#4),
    (0b1011_1101_0011_0010#16, 0#16, .mulhu 0xD#4 0x3#4),
    (0b1011_1101_0011_0011#16, 0#16, .div 0xD#4 0x3#4),
    (0b1011_1101_0011_0100#16, 0#16, .divu 0xD#4 0x3#4),
    (0b1011_1101_0011_0101#16, 0#16, .rem 0xD#4 0x3#4),
    (0b1011_1101_0011_0110#16, 0#16, .remu 0xD#4 0x3#4),
    (0b1011_1101_0000_0111#16, 0#16, .daa 0xD#4)] = true := by decide
theorem test_decode_stack_misc : decodesTo [
    (0b1100_0000_0011_0000#16, 0#16, .push 0x3#4),
    (0b1100_1101_0000_0001#16, 0#16, .pop 0xD#4),
    (0b1100_1101_0011_0010#16, 0#16, .cmp 0xD#4 0x3#4),
    (0b1100_1101_0011_0011#16, 0#16, .test 0xD#4 0x3#4),
    (0b1100_1101_0011_0100#16, 0#16, .mov 0xD#4 0x3#4),
    (0b1100_0000_0000_0101#16, 0#16, .ldi),
    (0b1100_0000_0000_0110#16, 0#16, .ldd),
    (0b1100_0000_0000_0111#16, 0#16, .ldir),
    (0b1100_0000_0000_1000#16, 0#16, .lddr),
    (0b1100_0000_0000_1001#16, 0#16, .cpir),
    (0b1100_0000_0000_1010#16, 0#16, .fill),
    (0b1100_0000_0000_1011#16, 0#16, .exx),
    (0b1100_1101_0000_1100#16, 0#16, .getf 0xD#4),
    (0b1100_0000_0011_1101#16, 0#16, .setf 0x3#4)] = true := by decide
theorem test_decode_io : decodesTo [
    (0b1101_1101_1011_0000#16, 0#16, .ini 0xD#4 0xB#4),
    (0b1101_1101_1011_0001#16, 0#16, .outi 0xD#4 0xB#4),
    (0b1101_1101_0011_0010#16, 0#16, .inp 0xD#4 0x3#4),
    (0b1101_1101_0011_0011#16, 0#16, .out 0xD#4 0x3#4)] = true := by decide
theorem test_decode_system : decodesTo [
    (0b1110_0000_0000_0000#16, 0#16, .nop),
    (0b1110_0001_0000_0000#16, 0#16, .halt),
    (0b1110_0010_0000_0000#16, 0#16, .di),
    (0b1110_0011_0000_0000#16, 0#16, .ei),
    (0b1110_0100_0000_0000#16, 0#16, .reti),
    (0b1110_0110_0000_0000#16, 0#16, .scf),
    (0b1110_0111_0000_0000#16, 0#16, .ccf),
    (0b1110_1000_0000_0000#16, 0#16, .sei),
    (0b1110_1001_0000_0000#16, 0#16, .cli),
    (0b1110_0101_1001_1100#16, 0#16, .swi 0x9C#8)] = true := by decide
theorem test_decode_extended : decodesTo [
    (0b1111_1101_0011_0000#16, 0b1001_1010_0011_1100#16, .addix 0xD#4 0x3#4 0x9A3C#16),
    (0b1111_1101_0011_0001#16, 0b1001_1010_0011_1100#16, .subix 0xD#4 0x3#4 0x9A3C#16),
    (0b1111_1101_0011_0010#16, 0b1001_1010_0011_1100#16, .andix 0xD#4 0x3#4 0x9A3C#16),
    (0b1111_1101_0011_0011#16, 0b1001_1010_0011_1100#16, .orix 0xD#4 0x3#4 0x9A3C#16),
    (0b1111_1101_0011_0100#16, 0b1001_1010_0011_1100#16, .xorix 0xD#4 0x3#4 0x9A3C#16),
    (0b1111_1101_0011_0101#16, 0b1001_1010_0011_1100#16, .lwx 0xD#4 0x3#4 0x9A3C#16),
    (0b1111_1101_0011_0110#16, 0b1001_1010_0011_1100#16, .swx 0xD#4 0x3#4 0x9A3C#16),
    (0b1111_1101_0000_0111#16, 0b1001_1010_0011_1100#16, .lix 0xD#4 0x9A3C#16),
    (0b1111_0000_0000_1000#16, 0b1001_1010_0011_1100#16, .jx 0x9A3C#16),
    (0b1111_0000_0000_1001#16, 0b1001_1010_0011_1100#16, .jalx 0x9A3C#16),
    (0b1111_1101_0000_1010#16, 0b1001_1010_0011_1100#16, .cmpix 0xD#4 0x9A3C#16),
    (0b1111_1101_0000_1011#16, 0b0000_0000_1100_0101#16, .inx 0xD#4 0xC5#8),
    (0b1111_0000_0011_1100#16, 0b0000_0000_1100_0101#16, .outx 0x3#4 0xC5#8),
    (0b1111_1101_0011_1101#16, 0b0000_0000_0000_1011#16, .sllx 0xD#4 0x3#4 0xB#4),
    (0b1111_1101_0011_1110#16, 0b0000_0000_0000_1011#16, .srlx 0xD#4 0x3#4 0xB#4),
    (0b1111_1101_0011_1111#16, 0b0000_0000_0000_1011#16, .srax 0xD#4 0x3#4 0xB#4)] = true := by decide

theorem test_decode_reserved :
    ([0x6459#16, 0x7457#16, 0xB458#16, 0xC00E#16, 0xD454#16, 0xEA00#16].all fun w => (decodeWords w 0#16).isNone) =
      true := by decide
theorem test_decode_bytes_little_endian :
    decode [0x07#8, 0xF4#8, 0x34#8, 0x12#8, 0xAA#8] = .ok (.lix 4#4 0x1234#16, [0xAA#8]) := by decide
theorem test_decode_truncated : decode [0x07#8, 0xF4#8, 0x34#8] = .error .truncated := by decide
theorem test_encode_lix : encode (.lix 4#4 0x1234#16) = some [0x07#8, 0xF4#8, 0x34#8, 0x12#8] := by decide
theorem test_decodeTableWord : decodeTableWord 32 0x1234F407 = some (.lix 4#4 0x1234#16) := by decide

/-! ### One step each -/

theorem test_add_v3 : after 0x0456 0x0000
    (state 0x0100#16 0b0000 [(5, 0x7FFF), (6, 0x0001)] [])
    [4] [] = some (0x0102, 0b1001, [0x8000], []) := by decide
theorem test_add_v5 : after 0x0056 0x0000
    (state 0x0100#16 0b1111 [(5, 0x0003), (6, 0x0004)] [])
    [0] [] = some (0x0102, 0b0000, [0x0000], []) := by decide
theorem test_sub_v8 : after 0x1456 0x0000
    (state 0x0100#16 0b0000 [(5, 0x0003), (6, 0x0005)] [])
    [4] [] = some (0x0102, 0b1000, [0xFFFE], []) := by decide
theorem test_sub_v12 : after 0x1405 0x0000
    (state 0x0100#16 0b0000 [(5, 0x0001)] [])
    [4] [] = some (0x0102, 0b1000, [0xFFFF], []) := by decide
theorem test_and_v14 : after 0x2456 0x0000
    (state 0x0100#16 0b1011 [(5, 0xF0F0), (6, 0x0F0F)] [])
    [4] [] = some (0x0102, 0b0100, [0x0000], []) := by decide
theorem test_or_v15 : after 0x3456 0x0000
    (state 0x0100#16 0b0111 [(5, 0x8000), (6, 0x0001)] [])
    [4] [] = some (0x0102, 0b1011, [0x8001], []) := by decide
theorem test_or_v16 : after 0x3400 0x0000
    (state 0x0100#16 0b1001 [(4, 0x1234)] [])
    [4] [] = some (0x0102, 0b0101, [0x0000], []) := by decide
theorem test_xor_v17 : after 0x4456 0x0000
    (state 0x0100#16 0b0010 [(5, 0xFF00), (6, 0x0FF0)] [])
    [4] [] = some (0x0102, 0b1010, [0xF0F0], []) := by decide
theorem test_addi_v24 : after 0x5480 0x0000
    (state 0x0100#16 0b0000 [(4, 0x8000)] [])
    [4] [] = some (0x0102, 0b0011, [0x7F80], []) := by decide
theorem test_addi_v26 : after 0x5005 0x0000
    (state 0x0100#16 0b1111 [] [])
    [0] [] = some (0x0102, 0b0000, [0x0000], []) := by decide
theorem test_lw_v27 : after 0x6450 0x0000
    (state 0x0100#16 0b0000 [(5, 0x1000)] [(0x1000, 0x34), (0x1001, 0x92)])
    [4] [] = some (0x0102, 0b0000, [0x9234], []) := by decide
theorem test_lw_v39 : after 0x6050 0x0000
    (state 0x0100#16 0b0000 [(5, 0x1000)] [(0x1000, 0x34), (0x1001, 0x92)])
    [0] [] = some (0x0102, 0b0000, [0x0000], []) := by decide
theorem test_lb_v28 : after 0x6451 0x0000
    (state 0x0100#16 0b0000 [(5, 0x1001)] [(0x1001, 0x92)])
    [4] [] = some (0x0102, 0b0000, [0xFF92], []) := by decide
theorem test_lbu_v30 : after 0x6452 0x0000
    (state 0x0100#16 0b0000 [(5, 0x1001)] [(0x1001, 0x92)])
    [4] [] = some (0x0102, 0b0000, [0x0092], []) := by decide
theorem test_lwP2_v31 : after 0x6453 0x0000
    (state 0x0100#16 0b0000 [(5, 0x1000)] [(0x1002, 0x78), (0x1003, 0x56)])
    [4] [] = some (0x0102, 0b0000, [0x5678], []) := by decide
theorem test_lwP2_v36 : after 0x6453 0x0000
    (state 0x0100#16 0b0000 [(5, 0xFFFE)] [(0x0000, 0xCD), (0x0001, 0xAB)])
    [4] [] = some (0x0102, 0b0000, [0xABCD], []) := by decide
theorem test_lwP4_v32 : after 0x6454 0x0000
    (state 0x0100#16 0b0000 [(5, 0x1000)] [(0x1004, 0xBC), (0x1005, 0x9A)])
    [4] [] = some (0x0102, 0b0000, [0x9ABC], []) := by decide
theorem test_lwP6_v33 : after 0x6455 0x0000
    (state 0x0100#16 0b0000 [(5, 0x1000)] [(0x1006, 0xF0), (0x1007, 0xDE)])
    [4] [] = some (0x0102, 0b0000, [0xDEF0], []) := by decide
theorem test_lwM2_v34 : after 0x6456 0x0000
    (state 0x0100#16 0b0000 [(5, 0x1000)] [(0x0FFE, 0x33), (0x0FFF, 0x44)])
    [4] [] = some (0x0102, 0b0000, [0x4433], []) := by decide
theorem test_lwM2_v37 : after 0x6456 0x0000
    (state 0x0100#16 0b0000 [(5, 0x0000)] [(0xFFFE, 0x55), (0xFFFF, 0xAA)])
    [4] [] = some (0x0102, 0b0000, [0xAA55], []) := by decide
theorem test_lwM4_v35 : after 0x6457 0x0000
    (state 0x0100#16 0b0000 [(5, 0x1000)] [(0x0FFC, 0x11), (0x0FFD, 0x22)])
    [4] [] = some (0x0102, 0b0000, [0x2211], []) := by decide
theorem test_lui_v41 : after 0x6458 0x0000
    (state 0x0100#16 0b1111 [(5, 0x12AB)] [])
    [4] [] = some (0x0102, 0b1111, [0xAB00], []) := by decide
theorem test_sw_v52 : after 0x7550 0x0000
    (state 0x0100#16 0b0000 [(5, 0x2000)] [])
    [] [0x2000, 0x2001] = some (0x0102, 0b0000, [], [0x00, 0x20]) := by decide
theorem test_sw_v54 :
    stopAfter 0x7450 0x0000 (state 0x0100#16 0b0000 [(4, 0xBEEF), (5, 0x2001)] []) =
      some (.misalignedAccess 0x2001#16) := by decide
theorem test_sb_v45 : after 0x7451 0x0000
    (state 0x0100#16 0b0000 [(4, 0xBEEF), (5, 0x2001)] [(0x2000, 0x11), (0x2001, 0x22), (0x2002, 0x33)])
    [] [0x2000, 0x2001, 0x2002] = some (0x0102, 0b0000, [], [0x11, 0xEF, 0x33]) := by decide
theorem test_swP2_v46 : after 0x7452 0x0000
    (state 0x0100#16 0b0000 [(4, 0xBEEF), (5, 0x2000)] [])
    [] [0x2002, 0x2003] = some (0x0102, 0b0000, [], [0xEF, 0xBE]) := by decide
theorem test_swP4_v47 : after 0x7453 0x0000
    (state 0x0100#16 0b0000 [(4, 0xBEEF), (5, 0x2000)] [])
    [] [0x2004, 0x2005] = some (0x0102, 0b0000, [], [0xEF, 0xBE]) := by decide
theorem test_swP6_v48 : after 0x7454 0x0000
    (state 0x0100#16 0b0000 [(4, 0xBEEF), (5, 0x2000)] [])
    [] [0x2006, 0x2007] = some (0x0102, 0b0000, [], [0xEF, 0xBE]) := by decide
theorem test_swM2_v49 : after 0x7455 0x0000
    (state 0x0100#16 0b0000 [(4, 0xBEEF), (5, 0x2000)] [])
    [] [0x1FFE, 0x1FFF] = some (0x0102, 0b0000, [], [0xEF, 0xBE]) := by decide
theorem test_swM4_v50 : after 0x7456 0x0000
    (state 0x0100#16 0b0000 [(4, 0xBEEF), (5, 0x2000)] [])
    [] [0x1FFC, 0x1FFD] = some (0x0102, 0b0000, [], [0xEF, 0xBE]) := by decide
theorem test_swM4_v53 : after 0x7456 0x0000
    (state 0x0100#16 0b0000 [(4, 0xBEEF), (5, 0x0002)] [])
    [] [0xFFFE, 0xFFFF] = some (0x0102, 0b0000, [], [0xEF, 0xBE]) := by decide
theorem test_beq_v56 : after 0x8004 0x0000
    (state 0x0100#16 0b0100 [] [])
    [] [] = some (0x010A, 0b0100, [], []) := by decide
theorem test_beq_v62 : after 0x8080 0x0000
    (state 0x0010#16 0b0100 [] [])
    [] [] = some (0xFF12, 0b0100, [], []) := by decide
theorem test_bne_v58 : after 0x81FF 0x0000
    (state 0x0100#16 0b0000 [] [])
    [] [] = some (0x0100, 0b0000, [], []) := by decide
theorem test_blt_v64 : after 0x8204 0x0000
    (state 0x0100#16 0b1000 [] [])
    [] [] = some (0x010A, 0b1000, [], []) := by decide
theorem test_blt_v65 : after 0x8204 0x0000
    (state 0x0100#16 0b1001 [] [])
    [] [] = some (0x0102, 0b1001, [], []) := by decide
theorem test_bge_v66 : after 0x8304 0x0000
    (state 0x0100#16 0b1001 [] [])
    [] [] = some (0x010A, 0b1001, [], []) := by decide
theorem test_bltu_v67 : after 0x8404 0x0000
    (state 0x0100#16 0b0000 [] [])
    [] [] = some (0x010A, 0b0000, [], []) := by decide
theorem test_bgeu_v68 : after 0x8504 0x0000
    (state 0x0100#16 0b0010 [] [])
    [] [] = some (0x010A, 0b0010, [], []) := by decide
theorem test_bmi_v69 : after 0x8604 0x0000
    (state 0x0100#16 0b1000 [] [])
    [] [] = some (0x010A, 0b1000, [], []) := by decide
theorem test_bpl_v70 : after 0x8704 0x0000
    (state 0x0100#16 0b1000 [] [])
    [] [] = some (0x0102, 0b1000, [], []) := by decide
theorem test_bvs_v71 : after 0x8804 0x0000
    (state 0x0100#16 0b0001 [] [])
    [] [] = some (0x010A, 0b0001, [], []) := by decide
theorem test_bvc_v72 : after 0x8904 0x0000
    (state 0x0100#16 0b0001 [] [])
    [] [] = some (0x0102, 0b0001, [], []) := by decide
theorem test_bcs_v73 : after 0x8A04 0x0000
    (state 0x0100#16 0b0010 [] [])
    [] [] = some (0x010A, 0b0010, [], []) := by decide
theorem test_bcc_v74 : after 0x8B04 0x0000
    (state 0x0100#16 0b0010 [] [])
    [] [] = some (0x0102, 0b0010, [], []) := by decide
theorem test_bgt_v75 : after 0x8C04 0x0000
    (state 0x0100#16 0b0000 [] [])
    [] [] = some (0x010A, 0b0000, [], []) := by decide
theorem test_bgt_v76 : after 0x8C04 0x0000
    (state 0x0100#16 0b0100 [] [])
    [] [] = some (0x0102, 0b0100, [], []) := by decide
theorem test_ble_v77 : after 0x8D04 0x0000
    (state 0x0100#16 0b0100 [] [])
    [] [] = some (0x010A, 0b0100, [], []) := by decide
theorem test_ble_v78 : after 0x8D04 0x0000
    (state 0x0100#16 0b0000 [] [])
    [] [] = some (0x0102, 0b0000, [], []) := by decide
theorem test_bhi_v79 : after 0x8E04 0x0000
    (state 0x0100#16 0b0010 [] [])
    [] [] = some (0x010A, 0b0010, [], []) := by decide
theorem test_bhi_v80 : after 0x8E04 0x0000
    (state 0x0100#16 0b0110 [] [])
    [] [] = some (0x0102, 0b0110, [], []) := by decide
theorem test_bls_v81 : after 0x8F04 0x0000
    (state 0x0100#16 0b0110 [] [])
    [] [] = some (0x010A, 0b0110, [], []) := by decide
theorem test_bls_v82 : after 0x8F04 0x0000
    (state 0x0100#16 0b0010 [] [])
    [] [] = some (0x0102, 0b0010, [], []) := by decide
theorem test_jalr_v93 : after 0x9551 0x0000
    (state 0x0100#16 0b0000 [(5, 0x0200)] [])
    [5] [] = some (0x0200, 0b0000, [0x0102], []) := by decide
theorem test_jalr_v96 : after 0x9011 0x0000
    (state 0x0100#16 0b0000 [(1, 0x0300)] [])
    [] [] = some (0x0300, 0b0000, [], []) := by decide
theorem test_jr_v91 : after 0x9FF0 0x0000
    (state 0x0100#16 0b0000 [(15, 0x4000)] [])
    [] [] = some (0x4000, 0b0000, [], []) := by decide
theorem test_jr_v98 : after 0x9F50 0x0000
    (state 0x0100#16 0b0000 [(5, 0x0201)] [])
    [] [] = some (0x0201, 0b0000, [], []) := by decide
theorem test_j_v83 : after 0x9FCE 0x0000
    (state 0x0100#16 0b0000 [] [])
    [] [] = some (0x009E, 0b0000, [], []) := by decide
theorem test_j_v84 : after 0x97FF 0x0000
    (state 0x0100#16 0b0000 [] [])
    [] [] = some (0x1100, 0b0000, [], []) := by decide
theorem test_sll1_v100 : after 0xA450 0x0000
    (state 0x0100#16 0b0000 [(5, 0xF00F)] [])
    [4] [] = some (0x0102, 0b0000, [0xE01E], []) := by decide
theorem test_srl1_v101 : after 0xA451 0x0000
    (state 0x0100#16 0b0000 [(5, 0xF00F)] [])
    [4] [] = some (0x0102, 0b0000, [0x7807], []) := by decide
theorem test_sra1_v102 : after 0xA452 0x0000
    (state 0x0100#16 0b0000 [(5, 0xF00F)] [])
    [4] [] = some (0x0102, 0b0000, [0xF807], []) := by decide
theorem test_sra1_v118 : after 0xA452 0x0000
    (state 0x0100#16 0b1111 [(5, 0x7FFE)] [])
    [4] [] = some (0x0102, 0b1111, [0x3FFF], []) := by decide
theorem test_rol1_v103 : after 0xA453 0x0000
    (state 0x0100#16 0b0000 [(5, 0xF00F)] [])
    [4] [] = some (0x0102, 0b0000, [0xE01F], []) := by decide
theorem test_ror1_v104 : after 0xA454 0x0000
    (state 0x0100#16 0b0000 [(5, 0xF00F)] [])
    [4] [] = some (0x0102, 0b0000, [0xF807], []) := by decide
theorem test_rcl_v116 : after 0xA455 0x0000
    (state 0x0100#16 0b1111 [(5, 0x7001)] [])
    [4] [] = some (0x0102, 0b1101, [0xE003], []) := by decide
theorem test_rcl_v121 : after 0xA055 0x0000
    (state 0x0100#16 0b0000 [(5, 0x8000)] [])
    [0] [] = some (0x0102, 0b0010, [0x0000], []) := by decide
theorem test_rcr_v117 : after 0xA456 0x0000
    (state 0x0100#16 0b1111 [(5, 0x7000)] [])
    [4] [] = some (0x0102, 0b1101, [0xB800], []) := by decide
theorem test_swap_v122 : after 0xA447 0x0000
    (state 0x0100#16 0b0000 [(4, 0x12AB)] [])
    [4] [] = some (0x0102, 0b0000, [0xAB12], []) := by decide
theorem test_sll4_v108 : after 0xA458 0x0000
    (state 0x0100#16 0b0000 [(5, 0xF00F)] [])
    [4] [] = some (0x0102, 0b0000, [0x00F0], []) := by decide
theorem test_srl4_v109 : after 0xA459 0x0000
    (state 0x0100#16 0b0000 [(5, 0xF00F)] [])
    [4] [] = some (0x0102, 0b0000, [0x0F00], []) := by decide
theorem test_sra4_v110 : after 0xA45A 0x0000
    (state 0x0100#16 0b0000 [(5, 0xF00F)] [])
    [4] [] = some (0x0102, 0b0000, [0xFF00], []) := by decide
theorem test_rol4_v111 : after 0xA45B 0x0000
    (state 0x0100#16 0b0000 [(5, 0xF00F)] [])
    [4] [] = some (0x0102, 0b0000, [0x00FF], []) := by decide
theorem test_sll8_v112 : after 0xA45C 0x0000
    (state 0x0100#16 0b0000 [(5, 0xF00F)] [])
    [4] [] = some (0x0102, 0b0000, [0x0F00], []) := by decide
theorem test_srl8_v113 : after 0xA45D 0x0000
    (state 0x0100#16 0b0000 [(5, 0xF00F)] [])
    [4] [] = some (0x0102, 0b0000, [0x00F0], []) := by decide
theorem test_sra8_v114 : after 0xA45E 0x0000
    (state 0x0100#16 0b0000 [(5, 0xF00F)] [])
    [4] [] = some (0x0102, 0b0000, [0xFFF0], []) := by decide
theorem test_rol8_v115 : after 0xA45F 0x0000
    (state 0x0100#16 0b0000 [(5, 0xF00F)] [])
    [4] [] = some (0x0102, 0b0000, [0x0FF0], []) := by decide
theorem test_mul_v123 : after 0xB450 0x0000
    (state 0x0100#16 0b1111 [(4, 0x1234), (5, 0x5678)] [])
    [4] [] = some (0x0102, 0b1111, [0x0060], []) := by decide
theorem test_mul_v126 : after 0xB450 0x0000
    (state 0x0100#16 0b0000 [(4, 0xFFFF), (5, 0xFFFF)] [])
    [4] [] = some (0x0102, 0b0000, [0x0001], []) := by decide
theorem test_mulh_v129 : after 0xB451 0x0000
    (state 0x0100#16 0b0000 [(4, 0x8000), (5, 0x0002)] [])
    [4] [] = some (0x0102, 0b0000, [0xFFFF], []) := by decide
theorem test_mulh_v131 : after 0xB451 0x0000
    (state 0x0100#16 0b0000 [(4, 0x8000), (5, 0x8000)] [])
    [4] [] = some (0x0102, 0b0000, [0x4000], []) := by decide
theorem test_mulhu_v128 : after 0xB452 0x0000
    (state 0x0100#16 0b0000 [(4, 0xFFFF), (5, 0xFFFF)] [])
    [4] [] = some (0x0102, 0b0000, [0xFFFE], []) := by decide
theorem test_div_v134 : after 0xB453 0x0000
    (state 0x0100#16 0b0000 [(4, 0xFFF9), (5, 0x0002)] [])
    [4] [] = some (0x0102, 0b0000, [0xFFFD], []) := by decide
theorem test_div_v135 : after 0xB453 0x0000
    (state 0x0100#16 0b0000 [(4, 0x0007), (5, 0xFFFE)] [])
    [4] [] = some (0x0102, 0b0000, [0xFFFD], []) := by decide
theorem test_divu_v141 : after 0xB454 0x0000
    (state 0x0100#16 0b0000 [(4, 0xFFF9), (5, 0x0002)] [])
    [4] [] = some (0x0102, 0b0000, [0x7FFC], []) := by decide
theorem test_rem_v138 : after 0xB455 0x0000
    (state 0x0100#16 0b0000 [(4, 0xFFF9), (5, 0x0002)] [])
    [4] [] = some (0x0102, 0b0000, [0xFFFF], []) := by decide
theorem test_rem_v139 : after 0xB455 0x0000
    (state 0x0100#16 0b0000 [(4, 0x0007), (5, 0xFFFE)] [])
    [4] [] = some (0x0102, 0b0000, [0x0001], []) := by decide
theorem test_remu_v144 : after 0xB456 0x0000
    (state 0x0100#16 0b0000 [(4, 0x0001), (5, 0xFFFF)] [])
    [4] [] = some (0x0102, 0b0000, [0x0001], []) := by decide
theorem test_daa_v154 :
    stopAfter 0xB407 0x0000 (state 0x0100#16 0b0000 [(4, 0x001A)] []) =
      some (.unspecified .daa) := by decide
theorem test_push_v158 : after 0xC020 0x0000
    (state 0x0100#16 0b0000 [(2, 0x8000)] [])
    [2] [0x7FFE, 0x7FFF] = some (0x0102, 0b0000, [0x7FFE], [0x00, 0x80]) := by decide
theorem test_push_v160 : after 0xC040 0x0000
    (state 0x0100#16 0b0000 [(2, 0x0000), (4, 0xBEEF)] [])
    [2] [0xFFFE, 0xFFFF] = some (0x0102, 0b0000, [0xFFFE], [0xEF, 0xBE]) := by decide
theorem test_pop_v163 : after 0xC001 0x0000
    (state 0x0100#16 0b0000 [(2, 0x7FFE)] [(0x7FFE, 0xEF), (0x7FFF, 0xBE)])
    [0, 2] [] = some (0x0102, 0b0000, [0x0000, 0x8000], []) := by decide
theorem test_pop_v165 :
    stopAfter 0xC201 0x0000 (state 0x0100#16 0b0000 [(2, 0x7FFE)] [(0x7FFE, 0xEF), (0x7FFF, 0xBE)]) =
      some (.unspecified .popSp) := by decide
theorem test_cmp_v170 : after 0xC452 0x0000
    (state 0x0100#16 0b0000 [(4, 0x8000), (5, 0x0001)] [])
    [4] [] = some (0x0102, 0b0011, [0x8000], []) := by decide
theorem test_cmp_v172 : after 0xC452 0x0000
    (state 0x0100#16 0b0000 [(4, 0x7FFF), (5, 0xFFFF)] [])
    [4] [] = some (0x0102, 0b1001, [0x7FFF], []) := by decide
theorem test_test_v175 : after 0xC453 0x0000
    (state 0x0100#16 0b0111 [(4, 0x8001), (5, 0x8000)] [])
    [4] [] = some (0x0102, 0b1000, [0x8001], []) := by decide
theorem test_mov_v177 : after 0xC454 0x0000
    (state 0x0100#16 0b1111 [(4, 0x1111), (5, 0xBEEF)] [])
    [4, 5] [] = some (0x0102, 0b1111, [0xBEEF, 0xBEEF], []) := by decide
theorem test_ldi_v181 :
    stopAfter 0xC005 0x0000 (state 0x0100#16 0b0000 [] []) =
      some (.unspecified .ldi) := by decide
theorem test_ldd_v182 :
    stopAfter 0xC006 0x0000 (state 0x0100#16 0b0000 [] []) =
      some (.unspecified .ldd) := by decide
theorem test_ldir_v183 :
    stopAfter 0xC007 0x0000 (state 0x0100#16 0b0000 [] []) =
      some (.unspecified .ldir) := by decide
theorem test_lddr_v184 :
    stopAfter 0xC008 0x0000 (state 0x0100#16 0b0000 [] []) =
      some (.unspecified .lddr) := by decide
theorem test_cpir_v185 :
    stopAfter 0xC009 0x0000 (state 0x0100#16 0b0000 [] []) =
      some (.unspecified .cpir) := by decide
theorem test_fill_v186 :
    stopAfter 0xC00A 0x0000 (state 0x0100#16 0b0000 [] []) =
      some (.unspecified .fill) := by decide
theorem test_nop_v202 : after 0xE0FF 0x0000
    (state 0x0100#16 0b1010 [] [])
    [] [] = some (0x0102, 0b1010, [], []) := by decide
theorem test_scf_v208 : after 0xE600 0x0000
    (state 0x0100#16 0b1101 [] [])
    [] [] = some (0x0102, 0b1111, [], []) := by decide
theorem test_ccf_v211 : after 0xE700 0x0000
    (state 0x0100#16 0b0010 [] [])
    [] [] = some (0x0102, 0b0000, [], []) := by decide
theorem test_addix_v216 : after 0xF450 0x1234
    (state 0x0100#16 0b1111 [(5, 0xF000)] [])
    [4] [] = some (0x0104, 0b1111, [0x0234], []) := by decide
theorem test_subix_v218 : after 0xF451 0x0001
    (state 0x0100#16 0b0100 [(5, 0x0000)] [])
    [4] [] = some (0x0104, 0b0100, [0xFFFF], []) := by decide
theorem test_andix_v219 : after 0xF452 0x0FF0
    (state 0x0100#16 0b1011 [(5, 0xABCD)] [])
    [4] [] = some (0x0104, 0b1011, [0x0BC0], []) := by decide
theorem test_orix_v220 : after 0xF453 0x8001
    (state 0x0100#16 0b0000 [(5, 0x0110)] [])
    [4] [] = some (0x0104, 0b0000, [0x8111], []) := by decide
theorem test_xorix_v221 : after 0xF454 0xFFFF
    (state 0x0100#16 0b0000 [(5, 0x1234)] [])
    [4] [] = some (0x0104, 0b0000, [0xEDCB], []) := by decide
theorem test_lwx_v222 : after 0xF455 0x0010
    (state 0x0100#16 0b0000 [(5, 0x1000)] [(0x1010, 0x78), (0x1011, 0x56)])
    [4] [] = some (0x0104, 0b0000, [0x5678], []) := by decide
theorem test_lwx_v225 :
    stopAfter 0xF455 0x0011 (state 0x0100#16 0b0000 [(5, 0x1000)] []) =
      some (.misalignedAccess 0x1011#16) := by decide
theorem test_swx_v226 : after 0xF456 0x0010
    (state 0x0100#16 0b0000 [(4, 0xBEEF), (5, 0x2000)] [])
    [] [0x2010, 0x2011] = some (0x0104, 0b0000, [], [0xEF, 0xBE]) := by decide
theorem test_swx_v228 :
    stopAfter 0xF456 0x0001 (state 0x0100#16 0b0000 [(4, 0xBEEF), (5, 0x2000)] []) =
      some (.misalignedAccess 0x2001#16) := by decide
theorem test_lix_v229 : after 0xF407 0x1234
    (state 0x0100#16 0b1111 [(4, 0xFFFF)] [])
    [4] [] = some (0x0104, 0b1111, [0x1234], []) := by decide
theorem test_lix_v252 : after 0xF407 0x1234
    (state 0xFFFE#16 0b0000 [] [])
    [4] [] = some (0x0002, 0b0000, [0x1234], []) := by decide
theorem test_jx_v231 : after 0xF008 0x4000
    (state 0x0100#16 0b1111 [(1, 0xAAAA)] [])
    [1] [] = some (0x4000, 0b1111, [0xAAAA], []) := by decide
theorem test_jalx_v233 : after 0xF009 0x4000
    (state 0x0100#16 0b1111 [(1, 0xAAAA)] [])
    [1] [] = some (0x4000, 0b1111, [0x0104], []) := by decide
theorem test_cmpix_v236 : after 0xF40A 0x0005
    (state 0x0100#16 0b0000 [(4, 0x0005)] [])
    [4] [] = some (0x0104, 0b0110, [0x0005], []) := by decide
theorem test_cmpix_v237 : after 0xF40A 0x8000
    (state 0x0100#16 0b0000 [(4, 0x7FFF)] [])
    [4] [] = some (0x0104, 0b1001, [0x7FFF], []) := by decide
theorem test_sllx_v243 : after 0xF45D 0x000F
    (state 0x0100#16 0b0000 [(5, 0x0001)] [])
    [4] [] = some (0x0104, 0b0000, [0x8000], []) := by decide
theorem test_sllx_v244 : after 0xF45D 0x0014
    (state 0x0100#16 0b0000 [(5, 0x1234)] [])
    [4] [] = some (0x0104, 0b0000, [0x2340], []) := by decide
theorem test_srlx_v245 : after 0xF45E 0x0004
    (state 0x0100#16 0b0000 [(5, 0x8234)] [])
    [4] [] = some (0x0104, 0b0000, [0x0823], []) := by decide
theorem test_srax_v248 : after 0xF45F 0x000F
    (state 0x0100#16 0b0000 [(5, 0x8000)] [])
    [4] [] = some (0x0104, 0b0000, [0xFFFF], []) := by decide
theorem test_srax_v249 : after 0xF45F 0x000F
    (state 0x0100#16 0b0000 [(5, 0x7FFF)] [])
    [4] [] = some (0x0104, 0b0000, [0x0000], []) := by decide

theorem test_ini_v192 : holdsAfter 0xD030 0 (state 0x0100#16 0 [] [])
    (fun t => t.readReg 0 == 0 && t.pc == 0x0102 && portsRead t == [3]) = true := by decide
theorem test_outi_v193 : holdsAfter 0xD431 0 (state 0x0100#16 0 [(4, 0xBEEF)] [])
    (fun t => t.pc == 0x0102 && t.portTrace == [.write 0x03 0xBEEF]) = true := by decide
theorem test_inp_v195 : holdsAfter 0xD452 0 (state 0x0100#16 0 [(5, 0x1280)] [])
    (fun t => t.pc == 0x0102 && portsRead t == [0x80]) = true := by decide
theorem test_out_v197 : holdsAfter 0xD453 0 (state 0x0100#16 0 [(4, 0xBEEF), (5, 0xFF10)] [])
    (fun t => t.pc == 0x0102 && t.portTrace == [.write 0x10 0xBEEF]) = true := by decide
theorem test_inx_v239 : holdsAfter 0xF40B 0x1280 (state 0x0100#16 0 [] [])
    (fun t => t.pc == 0x0104 && portsRead t == [0x80]) = true := by decide
theorem test_outx_v240 : holdsAfter 0xF05C 0x0080 (state 0x0100#16 0 [(5, 0xBEEF)] [])
    (fun t => t.pc == 0x0104 && t.portTrace == [.write 0x80 0xBEEF]) = true := by decide
theorem test_halt_v203 : holdsAfter 0xE100 0 (state 0x0100#16 0b1010 [] [])
    (fun t => t.halted && t.pc == 0x0102 && t.flags.nzcv == 0b1010) = true := by decide
theorem test_di_v204 : holdsAfter 0xE200 0 ((state 0x0100#16 0 [] []).setIe true)
    (fun t => !t.ie && t.pc == 0x0102) = true := by decide
theorem test_ei_v205 : holdsAfter 0xE300 0 (state 0x0100#16 0 [] []) (fun t => t.ie && t.pc == 0x0102) = true := by decide
theorem test_sei_v212 : holdsAfter 0xE800 0 ((state 0x0100#16 0 [] []).setI false)
    (fun t => t.i && t.pc == 0x0102) = true := by decide
theorem test_cli_v213 : holdsAfter 0xE900 0 ((state 0x0100#16 0 [] []).setI true)
    (fun t => !t.i && t.pc == 0x0102) = true := by decide
theorem test_exx_advances : after 0xC00B 0 (state 0x0100#16 0b1010 [] []) [0] [] = some (0x0102, 0b1010, [0], []) := by
  decide
theorem test_getf_advances : after 0xC40C 0 (state 0x0100#16 0b1010 [] []) [0] [] = some (0x0102, 0b1010, [0], []) := by
  decide
theorem test_setf_advances : holdsAfter 0xC05D 0 (state 0x0100#16 0 [(5, 0xFFFF)] [])
    (fun t => t.pc == 0x0102 && t.readReg 5 == 0xFFFF) = true := by decide
theorem test_swi_runs : holdsAfter 0xE521 0 (state 0x0100#16 0 [] []) (fun t => !t.halted) = true := by decide
theorem test_reti_runs : holdsAfter 0xE400 0 (state 0x0100#16 0 [] []) (fun t => !t.halted) = true := by decide
theorem test_misaligned_fetch_v250 :
    stopAfter 0xE000 0 (state 0x0101#16 0 [] []) = some (.misalignedFetch 0x0101) := by decide
theorem test_reserved_v253 :
    stopAfter 0xB45B 0 (state 0x0100#16 0 [(4, 1)] []) = some (.illegalInstruction 0xB45B) := by decide

/-! ### Witnesses: states and operands that meet the hypotheses of the statements -/

/-- R5 = 0xFFFE, R6 = 0xFFFF, SP = 0x0000: the edges of the address space. -/
def edge : State := state 0xFFFE#16 0b1111 [(5, 0xFFFE), (6, 0xFFFF)] []

/-- SP = 0x0001, R5 = 0x0001: odd. -/
def oddEdge : State := state 0x0001#16 0 [(2, 0x0001), (5, 0x0001)] []

/-- The top word of the address space is absent, the word below it ROM; R5 = 0xFFFE, R6 = 0xFFFC, SP = 0xFFFE. -/
def holes : State :=
  { state 0xFFFE#16 0 [(2, 0xFFFE), (5, 0xFFFE), (6, 0xFFFC)] [] with
    memMap := [{ base := 0xFFFE, size := 2, kind := .absent }, { base := 0xFFFC, size := 2, kind := .rom }] }

/-- The hypotheses of UnpopulatedAccessStops for a load at R7 plus `d`. -/
def unreadableAt (s : State) (d : Word) : Bool :=
  !isOdd (s.readReg 7 + d) && !(s.readable (s.readReg 7 + d) && s.readable (s.readReg 7 + d + 1#16))

/-- The same for a store. -/
def unwritableAt (s : State) (d : Word) : Bool :=
  !isOdd (s.readReg 7 + d) && !(s.writable (s.readReg 7 + d) && s.writable (s.readReg 7 + d + 1#16))

theorem witness_DecodeOfEncodeIsIdentity : encode (.sub 13#4 3#4 9#4) = some [0x39#8, 0x1D#8] ∧
    encode (.j 0xFFF#12) = some [0xFF#8, 0x9F#8] ∧ (Instr.j 0xEF0#12).wellFormed = true := by decide
theorem witness_UnusedFieldsAreIgnored : ([
    (0xB0F7, 0xF00F, 0xB007), (0xCF00, 0xF00F, 0xC000), (0xC0F1, 0xF00F, 0xC001), (0xCFF5, 0xF00F, 0xC005),
     (0xCFF6, 0xF00F, 0xC006), (0xCFF7, 0xF00F, 0xC007), (0xCFF8, 0xF00F, 0xC008), (0xCFF9, 0xF00F, 0xC009),
     (0xCFFA, 0xF00F, 0xC00A), (0xCFFB, 0xF00F, 0xC00B), (0xC0FC, 0xF00F, 0xC00C), (0xCF0D, 0xF00F, 0xC00D),
     (0xE0FF, 0xFF00, 0xE000), (0xE1FF, 0xFF00, 0xE100), (0xE2FF, 0xFF00, 0xE200), (0xE3FF, 0xFF00, 0xE300),
     (0xE4FF, 0xFF00, 0xE400), (0xE6FF, 0xFF00, 0xE600), (0xE7FF, 0xFF00, 0xE700), (0xE8FF, 0xFF00, 0xE800),
     (0xE9FF, 0xFF00, 0xE900), (0xF0F7, 0xF00F, 0xF007), (0xFFF8, 0xF00F, 0xF008), (0xFFF9, 0xF00F, 0xF009),
     (0xF0FA, 0xF00F, 0xF00A), (0xF0FB, 0xF00F, 0xF00B), (0xFF0C, 0xF00F, 0xF00C), (0xF00D, 0xF00F, 0xF00D),
     (0xF00E, 0xF00F, 0xF00E), (0xF00F, 0xF00F, 0xF00F)].all
      fun (p : Word × Word × Word) => p.1 &&& p.2.1 == p.2.2) = true := by decide
theorem witness_DecodedInstructionIsWellFormed : decodeWords 0x9FF2#16 0#16 = some (.j 0xFF2#12) ∧
    decodeWords 0xFDEF#16 0xFFFF#16 = some (.srax 13#4 14#4 15#4) := by decide
theorem witness_StepRunsTheDecodedInstruction :
    let s := placed 0xF407 0x1234 edge
    s.halted = false ∧ isOdd s.pc = false ∧
      (∀ k < (Instr.lix 4#4 0x1234#16).lengthBytes, s.readable (s.pc + BitVec.ofNat 16 k) = true) ∧
      decode [s.byteAt s.pc, s.byteAt (s.pc + 1#16), s.byteAt (s.pc + 2#16), s.byteAt (s.pc + 3#16)] =
        .ok (.lix 4#4 0x1234#16, []) ∧ (Instr.lix 4#4 0x1234#16).wellFormed = true := by decide
theorem witness_FetchStopsInOrder_odd : oddEdge.halted = false ∧ isOdd oddEdge.pc = true := by decide
theorem witness_FetchStopsInOrder_first_word : holes.halted = false ∧ isOdd holes.pc = false ∧
    (holes.readable holes.pc && holes.readable (holes.pc + 1#16)) = false := by decide
theorem witness_FetchStopsInOrder_second_word :
    let s := placed 0xF407 0 { holes with pc := 0xFFFC }
    s.halted = false ∧ isOdd s.pc = false ∧ (s.readable s.pc && s.readable (s.pc + 1#16)) = true ∧
      (s.wordAt s.pc).toNat / 4096 = 0xF ∧ (s.readable (s.pc + 2#16) && s.readable (s.pc + 3#16)) = false := by decide
theorem witness_FetchStopsInOrder_reserved :
    let s := placed 0x6459 0 edge
    s.halted = false ∧ isOdd s.pc = false ∧ (s.readable s.pc && s.readable (s.pc + 1#16)) = true ∧
      decodeWords (s.wordAt s.pc) 0#16 = none := by decide
theorem witness_HaltedCoreStays : ({ edge with halted := true } : State).halted = true := by decide
theorem witness_CallThenReturnComesBack : (15#4 : RegNum) ≠ 0#4 := by decide
theorem witness_WordLoadsReadLittleEndian :
    ([0#16, 2#16, 4#16, 6#16, 0xFFFE#16, 0xFFFC#16, 0x8000#16].all fun d =>
      !isOdd (edge.readReg 5 + d) && edge.readable (edge.readReg 5 + d) &&
        edge.readable (edge.readReg 5 + d + 1#16)) = true := by decide
theorem witness_ByteLoadsExtend : edge.readable (edge.readReg 6) = true := by decide
theorem witness_WordStoresWriteTwoBytes :
    (edge.mem.wf && [0#16, 2#16, 4#16, 6#16, 0xFFFE#16, 0xFFFC#16, 0x8000#16].all fun d =>
      !isOdd (edge.readReg 5 + d) && edge.writable (edge.readReg 5 + d) &&
        edge.writable (edge.readReg 5 + d + 1#16)) = true := by decide
theorem witness_ByteStoreWritesOneByte : edge.mem.wf = true ∧ edge.writable (edge.readReg 6) = true := by decide
theorem witness_StoreThenLoadAgree : edge.mem.wf = true ∧ (4#4 : RegNum) ≠ 0#4 ∧ isOdd (edge.readReg 5) = false ∧
    edge.writable (edge.readReg 5) = true ∧ edge.writable (edge.readReg 5 + 1#16) = true ∧
      edge.readReg 6 = edge.readReg 5 + 1#16 := by decide
theorem witness_OddWordAccessStops :
    ([0#16, 2#16, 4#16, 6#16, 0xFFFE#16, 0xFFFC#16, 0x8000#16].all fun d => isOdd (oddEdge.readReg 5 + d)) = true ∧
      isOdd (oddEdge.readReg 2 - 2#16) = true ∧ isOdd (oddEdge.readReg 2) = true ∧ (15#4 : RegNum) ≠ 2#4 := by decide
theorem witness_UnpopulatedAccessStops_loads :
    ([(0#16, 0xFFFE#16), (2#16, 0xFFFC#16), (4#16, 0xFFFA#16), (6#16, 0xFFF8#16), (0xFFFE#16, 0x0000#16),
        (0xFFFC#16, 0x0002#16)].all fun p : Word × Word => unreadableAt (holes.writeReg 7 p.2) p.1) = true ∧
      holes.readable (holes.readReg 5) = false := by decide
theorem witness_UnpopulatedAccessStops_stores :
    ([(0#16, 0xFFFC#16), (2#16, 0xFFFA#16), (4#16, 0xFFF8#16), (6#16, 0xFFF6#16), (0xFFFE#16, 0xFFFE#16),
        (0xFFFC#16, 0x0000#16)].all fun p : Word × Word => unwritableAt (holes.writeReg 7 p.2) p.1) = true ∧
      holes.writable (holes.readReg 6) = false := by decide
theorem witness_UnpopulatedAccessStops_stack :
    isOdd (holes.readReg 2 - 2#16) = false ∧
      (holes.writable (holes.readReg 2 - 2#16) && holes.writable (holes.readReg 2 - 2#16 + 1#16)) = false ∧
      isOdd (holes.readReg 2) = false ∧
      (holes.readable (holes.readReg 2) && holes.readable (holes.readReg 2 + 1#16)) = false ∧
      (15#4 : RegNum) ≠ 2#4 := by decide
theorem witness_MulWritesTheLowHalf : (0xBFF0#16 : Word) &&& 0xF00F#16 = 0xB000#16 := by decide
theorem witness_UnsignedDivisionIsEuclidean : (edge.readReg 6).toNat ≠ 0 := by decide
theorem witness_SignedDivisionTruncatesTowardZero :
    let s := state 0 0 [(4, 0x8000), (5, 0x0001), (6, 0x8001), (7, 0xFFFF)] []
    (s.readReg 5).toInt ≠ 0 ∧ ¬((s.readReg 4).toInt = -32768 ∧ (s.readReg 5).toInt = -1) ∧
      (s.readReg 7).toInt ≠ 0 ∧ ¬((s.readReg 6).toInt = -32768 ∧ (s.readReg 7).toInt = -1) := by decide
theorem witness_DivisionCornersWriteTheParameter_zero : edge.readReg 0 = 0#16 ∧ edge.readReg 4 = 0#16 := by decide
theorem witness_DivisionCornersWriteTheParameter_overflow :
    let s := state 0 0 [(4, 0x8000), (5, 0xFFFF)] []
    s.readReg 4 = 0x8000#16 ∧ s.readReg 5 = 0xFFFF#16 := by decide
theorem witness_PushStoresBelowTheStack : edge.mem.wf = true ∧ isOdd (edge.readReg 2 - 2#16) = false ∧
    edge.writable (edge.readReg 2 - 2#16) = true ∧ edge.writable (edge.readReg 2 - 2#16 + 1#16) = true := by decide
theorem witness_PopLoadsAndRaisesTheStack :
    let s := edge.writeReg 2 0xFFFE
    (0#4 : RegNum) ≠ 2#4 ∧ isOdd (s.readReg 2) = false ∧ s.readable (s.readReg 2) = true ∧
      s.readable (s.readReg 2 + 1#16) = true := by decide
theorem witness_PushThenPopRestores : edge.mem.wf = true ∧ (0#4 : RegNum) ≠ 2#4 ∧ isOdd (edge.readReg 2) = false ∧
    edge.writable (edge.readReg 2 - 2#16) = true ∧ edge.writable (edge.readReg 2 - 2#16 + 1#16) = true := by decide
theorem witness_GetfReadsTheNamedBits : (15#4 : RegNum) ≠ 0#4 := by decide
theorem witness_GetfThenSetfKeepsTheFlags : (1#4 : RegNum) ≠ 0#4 ∧ (edge.setI true).InterruptBitsRelated :=
  ⟨by decide, iOf_ieOf _ _ _⟩
theorem witness_NopOnlyAdvances : (0xE0FF#16 : Word) &&& 0xFF00#16 = 0xE000#16 := by decide
theorem witness_CarryInstructions : (0xE6FF#16 : Word) &&& 0xFF00#16 = 0xE600#16 ∧
    (0xE7FF#16 : Word) &&& 0xFF00#16 = 0xE700#16 := by decide
theorem witness_CarryInstructions_opcode : (0xE900#16 : Word) &&& 0xF000#16 = 0xE000#16 ∧
    decodeWords 0xE900#16 0#16 = some .cli ∧ Instr.cli ≠ .reti ∧ ∀ imm8, Instr.cli ≠ .swi imm8 :=
  ⟨by decide, rfl, by decide, fun _ h => nomatch h⟩
theorem witness_TrapsFollowTheTrapModel : edge.mem.wf = true := by decide
theorem witness_StepKeepsTheInvariant :
    let s := placed 0xE000 0 (edge.setI true)
    s.Inv ∧ step s = .next { s with pc := 0x0000#16 } :=
  ⟨⟨by decide, iOf_ieOf _ _ _⟩, rfl⟩
theorem witness_StepNeverChangesWhatIsNotRam :
    let s := placed 0xE000 0 { holes with pc := 0x0100 }
    step s = .next { s with pc := 0x0102#16 } ∧ s.kindAt 0xFFFC#16 ≠ .ram ∧ s.kindAt 0xFFFF#16 ≠ .ram :=
  ⟨rfl, by decide, by decide⟩
theorem witness_StepMakesAtMostOnePortAccess_write :
    let s := placed 0xD001 0 edge
    step s = .next { s with pc := 0x0000#16, portTrace := [.write 0#8 0#16] } := rfl
theorem witness_StepMakesAtMostOnePortAccess_read :
    let s := placed 0xD0F0 0 edge
    step s = .next { s with pc := 0x0000#16, portTrace := [.read 15#8 (Config.portAnswer [] 15#8)] } := rfl
theorem witness_StepMakesAtMostOnePortAccess_other :
    let s := placed 0xE000 0 edge
    step s = .next { s with pc := 0x0000#16 } := rfl
theorem witness_StepMakesAtMostOnePortAccess_halted : step edge.halt = .next edge.halt := rfl
theorem witness_OnlyListedInstructionsChangeFlags :
    exec .scf oddEdge = .next ((oddEdge.setCarry true).advance 2#16) ∧
      ((oddEdge.setCarry true).advance 2#16).flags ≠ oddEdge.flags := ⟨rfl, by decide⟩
theorem witness_OnlyStoringInstructionsChangeMemory :
    exec (.sb 6#4 5#4) edge = .next ((edge.setByte 0xFFFE#16 0xFF#8).advance 2#16) ∧
      ((edge.setByte 0xFFFE#16 0xFF#8).advance 2#16).byteAt 0xFFFE#16 ≠ edge.byteAt 0xFFFE#16 := ⟨rfl, by decide⟩
theorem witness_OddPcComesOnlyFromRegisterAndAbsoluteJumps :
    exec (.jx 0xFFFF#16) edge = .next (edge.jumpTo 0xFFFF#16) ∧ isOdd edge.pc = false ∧
      isOdd (edge.jumpTo 0xFFFF#16).pc = true := ⟨rfl, by decide, by decide⟩
theorem witness_OnlyHaltHaltsAndOnlyExxExchanges :
    exec .nop edge = .next (edge.advance 2#16) ∧ Instr.nop ≠ .halt ∧ Instr.nop ≠ .exx ∧ Instr.nop ≠ .reti ∧
      ∀ imm8, Instr.nop ≠ .swi imm8 := ⟨rfl, by decide, by decide, by decide, fun _ h => nomatch h⟩
theorem witness_StopsAreThoseOfTheTable_misaligned :
    exec (.lw 4#4 5#4) oddEdge = .fault (.misalignedAccess 0x0001#16) := rfl
theorem witness_StopsAreThoseOfTheTable_unpopulated :
    exec (.lb 4#4 5#4) holes = .fault (.unpopulated 0xFFFE#16) := rfl
theorem witness_StopsAreThoseOfTheTable_unpopulated_word :
    exec (.lw 4#4 5#4) holes = .fault (.unpopulated 0xFFFE#16) := rfl
theorem witness_StopsAreThoseOfTheTable_unpopulated_store :
    exec (.sw 4#4 6#4) holes = .fault (.unpopulated 0xFFFC#16) ∧
      exec (.sb 4#4 6#4) holes = .fault (.unpopulated 0xFFFC#16) := ⟨rfl, rfl⟩
theorem witness_StopsAreThoseOfTheTable_unspecified :
    exec (.daa 0#4) edge = .fault (.unspecified .daa) ∧ exec (.pop 2#4) edge = .fault (.unspecified .popSp) ∧
      exec .fill edge = .fault (.unspecified .fill) := ⟨rfl, rfl, rfl⟩

end Sys2Proof.Tests
end

section
/-! PROOF. The sixteen branches (42_branch_jump.md R170, R171). Opcode 0x8 decodes by its cond alone, `State.branchIf` is
the meaning all sixteen share, and each branch adds only its own condition, compared with its row of the truth table. -/

namespace Sys2Proof.Machine

/-! ### What the branches share -/

/-- A word of opcode 0x8 is decoded from its cond and its offset; the second word is not looked at (R107). -/
theorem decodeWords_branch (cond : Nibble) (offset8 : Byte) (w1 : Word) :
    decodeWords (wordOfImm8 0x8#4 cond offset8) w1 = decodeBranch cond offset8 := by
  simp [decodeWords]

/-- The displacement by shifting is the displacement by exact integers: two bytes for each unit of the offset (R93). -/
theorem branchDisp_eq_ofInt (offset8 : Byte) : branchDisp offset8 = BitVec.ofInt 16 (2 * offset8.toInt) := by
  have hext : offset8.signExtend 16 = BitVec.ofInt 16 offset8.toInt := rfl
  rw [branchDisp, hext, BitVec.ofInt_mul, BitVec.shiftLeft_eq_mul_twoPow, BitVec.mul_comm]
  rfl

/-- A jump changes nothing but the program counter. -/
theorem frame_jumpTo (s : State) (a : Word) : Frame s (s.jumpTo a) [] [] [] := by
  constructor <;> simp

/-- Where a branch goes, with the two outcomes of R171 as one sum. -/
theorem branchIf_eq (s : State) (taken : Bool) (offset8 : Byte) :
    s.branchIf taken offset8 =
      .next (s.jumpTo (s.pc + 2#16 + if taken then BitVec.ofInt 16 (2 * offset8.toInt) else 0#16)) := by
  cases taken <;> simp [State.branchIf, State.relative, branchDisp_eq_ofInt]

/-! ### One row of the truth table -/

/-- What R170 and R171 say of the branch `i` with the number `cond`: bit k of `row` is T in column NZCV = k. -/
def BranchRow (cond : Nibble) (i : Byte → Instr) (row : Word) : Prop :=
  ∀ (offset8 : Byte) (w1 : Word) (s : State),
    decodeWords (wordOfImm8 0x8#4 cond offset8) w1 = some (i offset8) ∧
      Completes (i offset8) s fun t =>
        t.pc = s.pc + 2#16 + (if row.getLsbD s.flags.nzcv then BitVec.ofInt 16 (2 * offset8.toInt) else 0#16) ∧
          t.flags = s.flags ∧ Frame s t [] [] []

/-- A branch follows its row if its cond decodes to it, its meaning is `branchIf` on a condition of the flags, and that
condition agrees with the row in all sixteen columns. -/
theorem branchRow_of {cond : Nibble} {i : Byte → Instr} {row : Word} (taken : Flags → Bool)
    (hdecode : ∀ offset8, decodeBranch cond offset8 = some (i offset8))
    (hexec : ∀ offset8 s, exec (i offset8) s = s.branchIf (taken s.flags) offset8)
    (hrow : ∀ n z c v : Bool, taken ⟨n, z, c, v⟩ = row.getLsbD (Flags.nzcv ⟨n, z, c, v⟩)) :
    BranchRow cond i row := by
  intro offset8 w1 s
  have htaken : taken s.flags = row.getLsbD s.flags.nzcv := hrow _ _ _ _
  refine ⟨(decodeWords_branch ..).trans (hdecode offset8), _, (hexec offset8 s).trans (branchIf_eq ..), ?_⟩
  exact ⟨by rw [State.jumpTo_pc, htaken], State.jumpTo_flags .., frame_jumpTo ..⟩

/-! ### The sixteen rows -/

/-- R172: Z = 1. -/
theorem branchRow_beq : BranchRow 0x0#4 .beq 0xF0F0#16 :=
  branchRow_of (fun f => f.z) (fun _ => rfl) (fun _ _ => rfl) (by decide)

/-- R173: Z = 0. -/
theorem branchRow_bne : BranchRow 0x1#4 .bne 0x0F0F#16 :=
  branchRow_of (fun f => !f.z) (fun _ => rfl) (fun _ _ => rfl) (by decide)

/-- R174: N != V. -/
theorem branchRow_blt : BranchRow 0x2#4 .blt 0x55AA#16 :=
  branchRow_of (fun f => f.n != f.v) (fun _ => rfl) (fun _ _ => rfl) (by decide)

/-- R175: N = V. -/
theorem branchRow_bge : BranchRow 0x3#4 .bge 0xAA55#16 :=
  branchRow_of (fun f => f.n == f.v) (fun _ => rfl) (fun _ _ => rfl) (by decide)

/-- R176: C = 0. -/
theorem branchRow_bltu : BranchRow 0x4#4 .bltu 0x3333#16 :=
  branchRow_of (fun f => !f.c) (fun _ => rfl) (fun _ _ => rfl) (by decide)

/-- R177: C = 1. -/
theorem branchRow_bgeu : BranchRow 0x5#4 .bgeu 0xCCCC#16 :=
  branchRow_of (fun f => f.c) (fun _ => rfl) (fun _ _ => rfl) (by decide)

/-- R178: N = 1. -/
theorem branchRow_bmi : BranchRow 0x6#4 .bmi 0xFF00#16 :=
  branchRow_of (fun f => f.n) (fun _ => rfl) (fun _ _ => rfl) (by decide)

/-- R179: N = 0. -/
theorem branchRow_bpl : BranchRow 0x7#4 .bpl 0x00FF#16 :=
  branchRow_of (fun f => !f.n) (fun _ => rfl) (fun _ _ => rfl) (by decide)

/-- R180: V = 1. -/
theorem branchRow_bvs : BranchRow 0x8#4 .bvs 0xAAAA#16 :=
  branchRow_of (fun f => f.v) (fun _ => rfl) (fun _ _ => rfl) (by decide)

/-- R181: V = 0. -/
theorem branchRow_bvc : BranchRow 0x9#4 .bvc 0x5555#16 :=
  branchRow_of (fun f => !f.v) (fun _ => rfl) (fun _ _ => rfl) (by decide)

/-- R182: C = 1. -/
theorem branchRow_bcs : BranchRow 0xA#4 .bcs 0xCCCC#16 :=
  branchRow_of (fun f => f.c) (fun _ => rfl) (fun _ _ => rfl) (by decide)

/-- R183: C = 0. -/
theorem branchRow_bcc : BranchRow 0xB#4 .bcc 0x3333#16 :=
  branchRow_of (fun f => !f.c) (fun _ => rfl) (fun _ _ => rfl) (by decide)

/-- R184: Z = 0 and N = V. -/
theorem branchRow_bgt : BranchRow 0xC#4 .bgt 0x0A05#16 :=
  branchRow_of (fun f => !f.z && f.n == f.v) (fun _ => rfl) (fun _ _ => rfl) (by decide)

/-- R185: Z = 1 or N != V. -/
theorem branchRow_ble : BranchRow 0xD#4 .ble 0xF5FA#16 :=
  branchRow_of (fun f => f.z || f.n != f.v) (fun _ => rfl) (fun _ _ => rfl) (by decide)

/-- R186: C = 1 and Z = 0. -/
theorem branchRow_bhi : BranchRow 0xE#4 .bhi 0x0C0C#16 :=
  branchRow_of (fun f => f.c && !f.z) (fun _ => rfl) (fun _ _ => rfl) (by decide)

/-- R187: C = 0 or Z = 1. -/
theorem branchRow_bls : BranchRow 0xF#4 .bls 0xF3F3#16 :=
  branchRow_of (fun f => !f.c || f.z) (fun _ => rfl) (fun _ _ => rfl) (by decide)

/-- Settles O15: each of the sixteen branches follows its own row. -/
theorem branchesFollowTheTruthTable : Obligations.BranchesFollowTheTruthTable := by
  intro offset8 w1 s
  simp only [List.forall_mem_cons]
  exact ⟨branchRow_beq offset8 w1 s, branchRow_bne offset8 w1 s, branchRow_blt offset8 w1 s,
    branchRow_bge offset8 w1 s, branchRow_bltu offset8 w1 s, branchRow_bgeu offset8 w1 s, branchRow_bmi offset8 w1 s,
    branchRow_bpl offset8 w1 s, branchRow_bvs offset8 w1 s, branchRow_bvc offset8 w1 s, branchRow_bcs offset8 w1 s,
    branchRow_bcc offset8 w1 s, branchRow_bgt offset8 w1 s, branchRow_ble offset8 w1 s, branchRow_bhi offset8 w1 s,
    branchRow_bls offset8 w1 s, List.forall_mem_nil _⟩

end Sys2Proof.Machine
end

section
/-! PROOF. MUL (44_muldiv.md R230, R232): which words are MUL, and what it writes. An instruction that ends in
`State.finish` writes one register and goes on to the next instruction; MUL adds only that its value is the low half of
the product. -/

namespace Sys2Proof.Machine

/-! ### The words of MUL -/

/-- The opcode and the function of a word stand in the bits 0xF00F keeps (30_encoding.md R83). -/
theorem opcode_and_func_of_mask {w m : Word} (h : w &&& 0xF00F#16 = m) :
    opcodeOf w = opcodeOf m ∧ field1 w = field1 m := by
  subst h
  constructor
  · rw [opcodeOf, opcodeOf, BitVec.extractLsb'_and]
    exact (BitVec.and_allOnes (x := w.extractLsb' 12 4)).symm
  · rw [field1, field1, BitVec.extractLsb'_and]
    exact (BitVec.and_allOnes (x := w.extractLsb' 0 4)).symm

/-- A word of opcode 0xB is decoded from its register fields and its function; the second word is not looked at
(R107). -/
theorem decodeWords_mulDiv {w0 : Word} (h : opcodeOf w0 = 0xB#4) (w1 : Word) :
    decodeWords w0 w1 = decodeMulDiv (field3 w0) (field2 w0) (field1 w0) := by
  simp [decodeWords, h]

/-- Opcode 0xB with function 0 is MUL of the register fields (R232). -/
theorem decodeWords_mul {w0 : Word} (h : w0 &&& 0xF00F#16 = 0xB000#16) (w1 : Word) :
    decodeWords w0 w1 = some (.mul (field3 w0) (field2 w0)) := by
  obtain ⟨hop, hfunc⟩ := opcode_and_func_of_mask h
  rw [decodeWords_mulDiv hop, hfunc]
  rfl

/-! ### One register written -/

/-- A register write followed by going on changes that register and the program counter, nothing else. -/
theorem frame_writeReg_advance (s : State) (rd : RegNum) (v len : Word) :
    Frame s ((s.writeReg rd v).advance len) [rd] [] [] := by
  constructor
  case regs =>
    intro r hr
    exact readReg_writeReg_other s v (List.ne_of_not_mem_cons hr)
  all_goals simp

/-- An instruction that ends in `State.finish` completes, with its value in `rd`, or discarded for R0
(10_state.md R21). -/
theorem completes_of_finish {i : Instr} {s : State} {rd : RegNum} {v len : Word} (h : exec i s = s.finish rd v len) :
    Completes i s fun t =>
      t.readReg rd = (if rd = 0#4 then 0#16 else v) ∧ t.flags = s.flags ∧ t.pc = s.pc + len ∧ Frame s t [rd] [] [] :=
  ⟨_, h, readReg_writeReg_same s rd v, rfl, rfl, frame_writeReg_advance s rd v len⟩

/-! ### The product -/

/-- For Rd = R0 the product is 0 already, so discarding it changes nothing (R232's corner case). -/
theorem discarded_product_eq (s : State) (rd : RegNum) (q : Word) :
    (if rd = 0#4 then 0#16 else s.readReg rd * q) = s.readReg rd * q := by
  split
  · next hrd => rw [hrd, readReg_zero, BitVec.zero_mul]
  · rfl

/-- Settles O28: the words of MUL by their opcode and function, its effect as that of an instruction that ends in
`State.finish`. -/
theorem mulWritesTheLowHalf : Obligations.MulWritesTheLowHalf := by
  refine ⟨fun w0 w1 h => decodeWords_mul h w1, fun rd rs1 s => ?_⟩
  have hexec : exec (.mul rd rs1) s = s.finish rd (s.readReg rd * s.readReg rs1) 2#16 := rfl
  obtain ⟨t, ht, hrd, hflags, hpc, hframe⟩ := completes_of_finish hexec
  refine ⟨t, ht, ?_, hflags, hpc, hframe⟩
  rw [hrd, discarded_product_eq, BitVec.toNat_mul]

end Sys2Proof.Machine
end

section
/-! PROOF. NOP, SCF and CCF (47_system.md R290, R296, R297). A word of opcode 0xE decodes by its function alone, and
ten functions have an instruction: of the eight that are not TRAP_MODEL's, CCF sets a clear carry and the other seven
leave a set carry set, so none of them clears carry whatever the state. -/

namespace Sys2Proof.Machine

/-! ### The words of opcode 0xE -/

/-- A mask that keeps bits 15:12 keeps the opcode. -/
theorem opcodeOf_eq_of_mask {w mask m : Word} (hmask : opcodeOf mask = 0xF#4) (h : w &&& mask = m) :
    opcodeOf w = opcodeOf m := by
  rw [← h, opcodeOf, opcodeOf, BitVec.extractLsb'_and, ← opcodeOf, ← opcodeOf, hmask]
  exact BitVec.and_allOnes.symm

/-- A mask that keeps bits 11:8 keeps the field they are. -/
theorem field3_eq_of_mask {w mask m : Word} (hmask : field3 mask = 0xF#4) (h : w &&& mask = m) :
    field3 w = field3 m := by
  rw [← h, field3, field3, BitVec.extractLsb'_and, ← field3, ← field3, hmask]
  exact BitVec.and_allOnes.symm

/-- A word of opcode 0xE is decoded from its function and its operand; the second word is not looked at (R107). -/
theorem decodeWords_system {w0 : Word} (h : opcodeOf w0 = 0xE#4) (w1 : Word) :
    decodeWords w0 w1 = decodeSystem (field3 w0) (imm8Of w0) := by
  simp [decodeWords, h]

/-- Bits 15:8 of a word of opcode 0xE select its function (R90). -/
theorem decodeWords_system_func {w0 : Word} {func : Nibble} (h : w0 &&& 0xFF00#16 = wordOfImm8 0xE#4 func 0x00#8)
    (w1 : Word) : decodeWords w0 w1 = decodeSystem func (imm8Of w0) := by
  have hop : opcodeOf w0 = 0xE#4 := (opcodeOf_eq_of_mask rfl h).trans (opcodeOf_wordOfImm8 ..)
  have hfunc : field3 w0 = func := (field3_eq_of_mask rfl h).trans (field3_wordOfImm8 ..)
  rw [decodeWords_system hop, hfunc]

/-- The instructions of opcode 0xE: CCF, the two of TRAP_MODEL, and seven more (R104). -/
theorem decodeSystem_eq_some {func : Nibble} {operand : Byte} {i : Instr} (h : decodeSystem func operand = some i) :
    i = .ccf ∨ i = .reti ∨ i = .swi operand ∨ i ∈ [Instr.nop, .halt, .di, .ei, .scf, .sei, .cli] := by
  unfold decodeSystem at h
  split at h <;> cases h <;> simp

/-! ### What they do -/

/-- NOP changes the program counter alone (R290). -/
theorem exec_nop (s : State) : exec .nop s = .next { s with pc := s.pc + 2#16 } := rfl

/-- SCF sets C (R296). -/
theorem exec_scf (s : State) :
    exec .scf s = .next { s with pc := s.pc + 2#16, flags := { s.flags with c := true } } := rfl

/-- CCF complements C (R297). -/
theorem exec_ccf (s : State) :
    exec .ccf s = .next { s with pc := s.pc + 2#16, flags := { s.flags with c := !s.flags.c } } := rfl

/-- AND writes the four flags of its result (40_alu.md R125). -/
theorem completes_and_flags (rd rs1 rs2 : RegNum) (s : State) :
    Completes (.and rd rs1 rs2) s fun t => t.flags = andFlags (s.readReg rs1 &&& s.readReg rs2) := ⟨_, rfl, rfl⟩

/-- AND of R0 with itself clears N, C and V and sets Z: R0 reads 0 (R297; 10_state.md R21). -/
theorem completes_and_zero_flags (rd : RegNum) (s : State) :
    Completes (.and rd 0#4 0#4) s fun t => t.flags = { n := false, z := true, c := false, v := false } := by
  obtain ⟨t, hexec, hflags⟩ := completes_and_flags rd 0#4 0#4 s
  have hzero : andFlags (0#16 &&& 0#16) = { n := false, z := true, c := false, v := false } := by decide
  rw [readReg_zero] at hflags
  exact ⟨t, hexec, hflags.trans hzero⟩

/-- Seven instructions of opcode 0xE leave a set carry set. -/
theorem completes_system_carry_set {s : State} (hc : s.flags.c = true) :
    ∀ i ∈ [Instr.nop, .halt, .di, .ei, .scf, .sei, .cli], Completes i s fun t => t.flags.c = true := by
  simp only [List.forall_mem_cons]
  exact ⟨⟨_, rfl, hc⟩, ⟨_, rfl, hc⟩, ⟨_, rfl, hc⟩, ⟨_, rfl, hc⟩, ⟨_, exec_scf s, rfl⟩, ⟨_, rfl, hc⟩, ⟨_, rfl, hc⟩,
    List.forall_mem_nil _⟩

/-- From some state, an instruction of opcode 0xE that is not TRAP_MODEL's completes with C set: a clear carry shows it
for CCF, a set carry for the others. -/
theorem exists_completes_system_carry {func : Nibble} {operand : Byte} {i : Instr}
    (h : decodeSystem func operand = some i) (hreti : i ≠ .reti) (hswi : ∀ imm8, i ≠ .swi imm8) :
    ∃ s : State, Completes i s fun t => t.flags.c = true := by
  obtain rfl | hi | hi | hi := decodeSystem_eq_some h
  · exact ⟨State.reset.setCarry false, _, exec_ccf _, rfl⟩
  · exact absurd hi hreti
  · exact absurd hi (hswi operand)
  · exact ⟨State.reset.setCarry true, completes_system_carry_set rfl i hi⟩

/-- Settles O44: the words of NOP by their function, its effect as `exec_nop`. -/
theorem nopOnlyAdvances : Obligations.NopOnlyAdvances :=
  ⟨fun _ w1 h => decodeWords_system_func (func := 0x0#4) h w1, fun _ => rfl, exec_nop⟩

/-- Settles O45: the words by their function, what SCF, CCF and AND do to C, and that opcode 0xE has no instruction that
clears it. -/
theorem carryInstructions : Obligations.CarryInstructions := by
  refine ⟨fun _ w1 h => decodeWords_system_func (func := 0x6#4) h w1,
    fun _ w1 h => decodeWords_system_func (func := 0x7#4) h w1, fun w0 w1 i hop hdecode hreti hswi => ?_, fun s => ?_⟩
  · rw [decodeWords_system (opcodeOf_eq_of_mask rfl hop)] at hdecode
    exact exists_completes_system_carry hdecode hreti hswi
  · exact ⟨⟨_, exec_scf s, rfl, _, exec_ccf _, rfl⟩, ⟨_, exec_ccf s, rfl⟩, completes_and_zero_flags 0#4 s⟩

end Sys2Proof.Machine
end

section
/-! PROOF. Decoding and encoding (30_encoding.md). Opcode by opcode, a word decodes by its fields alone; each of the
encoding's statements is that fact used on other words: those the encoder builds, those that are reserved, those that
differ in unused bits. -/

namespace Sys2Proof.Machine

/-! ### Fields as numbers -/

/-- Bits 15:12 of a word as a number. -/
theorem opcodeOf_toNat (w : Word) : (opcodeOf w).toNat = w.toNat / 4096 := by
  have hw := w.isLt
  rw [opcodeOf, BitVec.extractLsb'_toNat, Nat.shiftRight_eq_div_pow]
  omega

/-- Bits 11:8 of a word as a number. -/
theorem field3_toNat (w : Word) : (field3 w).toNat = w.toNat / 256 % 16 := by
  rw [field3, BitVec.extractLsb'_toNat, Nat.shiftRight_eq_div_pow]

/-- Bits 3:0 of a word as a number. -/
theorem field1_toNat (w : Word) : (field1 w).toNat = w.toNat % 16 := by
  rw [field1, BitVec.extractLsb'_toNat, Nat.shiftRight_eq_div_pow, Nat.pow_zero, Nat.div_one]

/-- Opcode 0xF, and no other, has a second word (R107). -/
theorem isExtended_iff (w : Word) : isExtended w = true ↔ w.toNat / 4096 = 0xF := by
  rw [isExtended, beq_iff_eq, ← opcodeOf_toNat]
  exact ⟨fun h => by rw [h]; rfl, fun h => BitVec.eq_of_toNat_eq h⟩

/-! ### The decoder, opcode by opcode -/

section
variable {w0 : Word} (w1 : Word)

/-- A word of opcode 0x6 is decoded from its register fields and its function. -/
theorem decodeWords_load (h : opcodeOf w0 = 0x6#4) :
    decodeWords w0 w1 = decodeLoad (field3 w0) (field2 w0) (field1 w0) := by simp [decodeWords, h]

/-- Opcode 0x7. -/
theorem decodeWords_store (h : opcodeOf w0 = 0x7#4) :
    decodeWords w0 w1 = decodeStore (field3 w0) (field2 w0) (field1 w0) := by simp [decodeWords, h]

/-- Opcode 0x9: always an instruction. -/
theorem decodeWords_jump (h : opcodeOf w0 = 0x9#4) : decodeWords w0 w1 = some (decodeJump w0) := by
  simp [decodeWords, h]

/-- Opcode 0xA. -/
theorem decodeWords_shift (h : opcodeOf w0 = 0xA#4) :
    decodeWords w0 w1 = decodeShift (field3 w0) (field2 w0) (field1 w0) := by simp [decodeWords, h]

/-- Opcode 0xC. -/
theorem decodeWords_misc (h : opcodeOf w0 = 0xC#4) :
    decodeWords w0 w1 = decodeMisc (field3 w0) (field2 w0) (field1 w0) := by simp [decodeWords, h]

/-- Opcode 0xD. -/
theorem decodeWords_io (h : opcodeOf w0 = 0xD#4) :
    decodeWords w0 w1 = decodeIo (field3 w0) (field2 w0) (field1 w0) := by simp [decodeWords, h]

/-- Opcode 0xF, the one that looks at the second word (R107). -/
theorem decodeWords_extended (h : opcodeOf w0 = 0xF#4) :
    decodeWords w0 w1 = decodeExtended (field3 w0) (field2 w0) (field1 w0) w1 := by simp [decodeWords, h]

end

/-! ### The words the encoder builds -/

/-- J's check (R102): its word is no JALR and no JR pattern. -/
theorem wellFormed_j_iff (off : BitVec 12) :
    (Instr.j off).wellFormed = true ↔
      off.extractLsb' 0 4 ≠ 0x1#4 ∧ ¬(off.extractLsb' 8 4 = 0xF#4 ∧ off.extractLsb' 0 4 = 0x0#4) := by
  simp only [Instr.wellFormed, collidesWithJalr, collidesWithJr, Bool.and_eq_true, Bool.not_eq_true', ← Bool.not_eq_true,
    beq_iff_eq, ne_eq]

/-- J's check in numbers (R102). -/
theorem wellFormed_j_eq_false_iff (off : BitVec 12) :
    (Instr.j off).wellFormed = false ↔ off.toNat % 16 = 1 ∨ (0xF00 ≤ off.toNat ∧ off.toNat % 16 = 0) := by
  have hoff := off.isLt
  rw [← Bool.not_eq_true, wellFormed_j_iff]
  simp only [ne_eq, ← BitVec.toNat_inj, BitVec.extractLsb'_toNat, Nat.shiftRight_eq_div_pow, BitVec.toNat_ofNat]
  omega

/-- A J that the encoding admits is none of the two patterns tried before it (R101). -/
theorem decodeJump_of_wellFormed {off : BitVec 12} (h : (Instr.j off).wellFormed = true) :
    decodeJump (0x9#4 ++ off) = .j off := by
  obtain ⟨hjalr, hjr⟩ := (wellFormed_j_iff off).1 h
  rw [decodeJump, field1_jump, field3_jump, offset12Of_jump, if_neg hjalr, if_neg hjr]

/-- The words of an instruction decode to it (R100): each opcode's decoder on the fields the encoder put. -/
theorem decodeWords_firstWord {i : Instr} (hwf : i.wellFormed = true) :
    decodeWords (firstWord i) ((secondWord i).getD 0#16) = some i := by
  cases i with
  | add | sub | and | or | xor | addi => simp [firstWord, decodeWords]
  | lw | lb | lbu | lwP2 | lwP4 | lwP6 | lwM2 | lwM4 | lui => simp [firstWord, decodeWords_load, decodeLoad]
  | sw | sb | swP2 | swP4 | swP6 | swM2 | swM4 => simp [firstWord, decodeWords_store, decodeStore]
  | beq | bne | blt | bge | bltu | bgeu | bmi | bpl | bvs | bvc | bcs | bcc | bgt | ble | bhi | bls =>
    simp [firstWord, decodeWords_branch, decodeBranch]
  | jalr | jr => simp [firstWord, decodeWords_jump, decodeJump]
  | j off => simp [firstWord, decodeWords_jump, decodeJump_of_wellFormed hwf]
  | sll1 | srl1 | sra1 | rol1 | ror1 | rcl | rcr | swap | sll4 | srl4 | sra4 | rol4 | sll8 | srl8 | sra8 | rol8 =>
    simp [firstWord, decodeWords_shift, decodeShift]
  | mul | mulh | mulhu | div | divu | rem | remu | daa => simp [firstWord, decodeWords_mulDiv, decodeMulDiv]
  | push | pop | cmp | test | mov | ldi | ldd | ldir | lddr | cpir | fill | exx | getf | setf =>
    simp [firstWord, decodeWords_misc, decodeMisc]
  | ini | outi | inp | out => simp [firstWord, decodeWords_io, decodeIo]
  | nop | halt | di | ei | reti | scf | ccf | sei | cli | swi => simp [firstWord, decodeWords_system, decodeSystem]
  | addix | subix | andix | orix | xorix | lwx | swx | lix | jx | jalx | cmpix | inx | outx | sllx | srlx | srax =>
    simp [firstWord, secondWord, decodeWords_extended, decodeExtended]

/-- Every instruction has the encoded form: a second word exactly for opcode 0xF. -/
theorem encodedForm (i : Instr) : Laws.EncodedForm.Statement i := by
  cases i with
  | addi | beq | bne | blt | bge | bltu | bgeu | bmi | bpl | bvs | bvc | bcs | bcc | bgt | ble | bhi | bls | nop | halt
  | di | ei | reti | scf | ccf | sei | cli | swi => exact Laws.encodedForm_of (opcodeOf_wordOfImm8 _ _ _) rfl
  | j off => exact Laws.EncodedForm.j off
  | _ => exact Laws.encodedForm_of (opcodeOf_wordOf _ _ _ _) rfl

/-- Decoding the bytes of an instruction of the encoding gives it back, with the bytes after it. -/
theorem decode_encodeBytes {i : Instr} (hwf : i.wellFormed = true) (rest : List Byte) :
    decode (encodeBytes i ++ rest) = .ok (i, rest) := by
  have hwords := decodeWords_firstWord hwf
  obtain ⟨hext, -⟩ := encodedForm i
  cases hsecond : secondWord i with
  | none => simp_all [encodeBytes, bytesOfWord, decode]
  | some w1 => simp_all [encodeBytes, bytesOfWord, decode]

/-- Settles O1: the words of an instruction decode to it, and the decoder reads as many bytes as the encoder wrote. -/
theorem decodeOfEncodeIsIdentity : Obligations.DecodeOfEncodeIsIdentity := by
  refine ⟨fun i bs rest h => ?_, fun i hwf => ⟨_, if_pos hwf⟩⟩
  by_cases hwf : i.wellFormed = true
  · obtain rfl : encodeBytes i = bs := Option.some.inj ((if_pos hwf).symm.trans h)
    exact decode_encodeBytes hwf rest
  · exact absurd ((if_neg hwf).symm.trans h) nofun

/-! ### What the encoder refuses -/

/-- Only a J is refused (R102). -/
theorem wellFormed_eq_false_iff (i : Instr) :
    i.wellFormed = false ↔ ∃ off, i = .j off ∧ (Instr.j off).wellFormed = false := by
  constructor
  · intro h
    cases i with
    | j off => exact ⟨off, rfl, h⟩
    | _ => exact absurd h Bool.noConfusion
  · rintro ⟨off, rfl, h⟩
    exact h

/-- The encoder refuses what is not well formed. -/
theorem encode_eq_none_iff (i : Instr) : encode i = none ↔ i.wellFormed = false := by
  rw [encode]
  cases i.wellFormed <;> simp

/-- The encoder refuses J at the colliding offsets and nothing else. -/
theorem encode_eq_none_iff_exists (i : Instr) :
    encode i = none ↔
      ∃ off : BitVec 12, i = .j off ∧ (off.toNat % 16 = 1 ∨ (0xF00 ≤ off.toNat ∧ off.toNat % 16 = 0)) := by
  simp only [encode_eq_none_iff, wellFormed_eq_false_iff i, wellFormed_j_eq_false_iff]

/-- A word of opcode 0x9 decodes to the J of its offset exactly where that J has an encoding. -/
theorem decodeJump_eq_j_iff (off : BitVec 12) :
    decodeJump (0x9#4 ++ off) = .j off ↔ (Instr.j off).wellFormed = true := by
  refine ⟨fun h => ?_, decodeJump_of_wellFormed⟩
  obtain ⟨-, hjump⟩ | ⟨-, -, hjump⟩ | ⟨hjalr, hjr, -⟩ := decodeJump_cases (0x9#4 ++ off)
  · exact absurd (hjump.symm.trans h) nofun
  · exact absurd (hjump.symm.trans h) nofun
  · rw [field1_jump] at hjalr
    rw [field1_jump, field3_jump] at hjr
    exact (wellFormed_j_iff off).2 ⟨hjalr, hjr⟩

/-- The collisions of R102 as a property of the number of the offset. -/
def Collides (n : Nat) : Prop := n % 16 = 1 ∨ (0xF00 ≤ n ∧ n % 16 = 0)

/-- Each sixteen offsets in a row hold one that ends in 0x1; from 0xF00 on the one that ends in 0x0 collides too. -/
theorem count_collides_block [DecidablePred Collides] (k : Nat) :
    Nat.count Collides (16 * k + 16) = Nat.count Collides (16 * k) + if 240 ≤ k then 2 else 1 := by
  have hge : 0xF00 ≤ 16 * k ↔ 240 ≤ k := by omega
  rw [Nat.count_add]
  simp [Nat.count_succ, Collides, hge]
  split <;> rfl

/-- So the first `k` blocks of sixteen hold `k` collisions and one more for each block from 0xF00 on. -/
theorem count_collides [DecidablePred Collides] (k : Nat) : Nat.count Collides (16 * k) = k + (k - 240) := by
  induction k with
  | zero => exact Nat.count_zero _
  | succ k ih =>
    rw [Nat.mul_succ, count_collides_block, ih]
    split <;> omega

/-- Of the 4096 offsets 272 are refused. -/
theorem length_refused_offsets :
    ((List.range 4096).filter fun n => (encode (.j (BitVec.ofNat 12 n))).isNone).length = 272 := by
  classical
  have hrefused : ∀ n ∈ List.range 4096, (encode (.j (BitVec.ofNat 12 n))).isNone = decide (Collides n) := by
    intro n hn
    have hmod : n % 2 ^ 12 = n := Nat.mod_eq_of_lt (List.mem_range.1 hn)
    rw [Bool.eq_iff_iff, Option.isNone_iff_eq_none, encode_eq_none_iff, wellFormed_j_eq_false_iff, decide_eq_true_iff,
      BitVec.toNat_ofNat, hmod, Collides]
  rw [List.filter_congr hrefused, ← List.countP_eq_length_filter]
  exact count_collides 256

/-- Settles O2: only J is refused, a refused J's word is another instruction's, and the collisions are counted by
blocks of sixteen. -/
theorem encoderRefusesExactlyTheCollidingJumps : Obligations.EncoderRefusesExactlyTheCollidingJumps := by
  refine ⟨encode_eq_none_iff_exists, fun off => ⟨_, decodeWords_jump _ (opcodeOf_jump off), ?_⟩, length_refused_offsets⟩
  rw [decodeJump_eq_j_iff, ne_eq, encode_eq_none_iff, Bool.not_eq_false]

/-! ### Reserved words -/

theorem decodeLoad_eq_none_iff (d s f : Nibble) : decodeLoad d s f = none ↔ 0x9 ≤ f.toNat := by
  unfold decodeLoad
  split <;> simp_all
  omega

theorem decodeStore_eq_none_iff (d s f : Nibble) : decodeStore d s f = none ↔ 0x7 ≤ f.toNat := by
  unfold decodeStore
  split <;> simp_all
  omega

theorem decodeMulDiv_eq_none_iff (d s f : Nibble) : decodeMulDiv d s f = none ↔ 0x8 ≤ f.toNat := by
  unfold decodeMulDiv
  split <;> simp_all
  omega

theorem decodeMisc_eq_none_iff (d s f : Nibble) : decodeMisc d s f = none ↔ 0xE ≤ f.toNat := by
  unfold decodeMisc
  split <;> simp_all
  omega

theorem decodeIo_eq_none_iff (d s f : Nibble) : decodeIo d s f = none ↔ 0x4 ≤ f.toNat := by
  unfold decodeIo
  split <;> simp_all
  omega

theorem decodeSystem_eq_none_iff (f : Nibble) (b : Byte) : decodeSystem f b = none ↔ 0xA ≤ f.toNat := by
  unfold decodeSystem
  split <;> simp_all
  omega

/-- All sixteen conditions have a branch (R170). -/
theorem decodeBranch_ne_none (f : Nibble) (b : Byte) : decodeBranch f b ≠ none := by
  have := f.isLt
  unfold decodeBranch
  split <;> simp_all
  omega

theorem decodeShift_ne_none (d s f : Nibble) : decodeShift d s f ≠ none := by
  have := f.isLt
  unfold decodeShift
  split <;> simp_all
  omega

theorem decodeExtended_ne_none (d s f : Nibble) (w1 : Word) : decodeExtended d s f w1 ≠ none := by
  have := f.isLt
  unfold decodeExtended
  split <;> simp_all
  omega

/-- Settles O3: six opcodes have reserved functions, each from a first one on. -/
theorem reservedWordsAreExactlyThoseListed : Obligations.ReservedWordsAreExactlyThoseListed := by
  intro w0 w1
  rw [← opcodeOf_toNat, ← field1_toNat, ← field3_toNat]
  have hop := (opcodeOf w0).isLt
  unfold decodeWords
  dsimp only
  -- one goal per opcode, closed by what its decoder reserves; `omega` rules out a seventeenth opcode
  split <;>
    simp_all [decodeLoad_eq_none_iff, decodeStore_eq_none_iff, decodeMulDiv_eq_none_iff, decodeMisc_eq_none_iff,
      decodeIo_eq_none_iff, decodeSystem_eq_none_iff, decodeBranch_ne_none, decodeShift_ne_none, decodeExtended_ne_none]
  omega

/-! ### Unused fields -/

/-- Changing bits a mask does not keep leaves what it keeps. -/
theorem xor_unused_and_mask {u mask : Word} (hunused : u &&& mask = 0#16) (w d : Word) :
    (w ^^^ (d &&& u)) &&& mask = w &&& mask := by
  refine BitVec.eq_of_getLsbD_eq fun k _ => ?_
  have hk : (u.getLsbD k && mask.getLsbD k) = false := by rw [← BitVec.getLsbD_and, hunused, BitVec.getLsbD_zero]
  simp only [BitVec.getLsbD_and, BitVec.getLsbD_xor]
  revert hk
  cases w.getLsbD k <;> cases d.getLsbD k <;> cases u.getLsbD k <;> simp

/-- A word of opcode `op` and function `func`, by the bits 0xF00F keeps. -/
theorem opcodeOf_and_field1_of_mask {w0 : Word} {op func : Nibble} (h : w0 &&& 0xF00F#16 = wordOf op 0#4 0#4 func) :
    opcodeOf w0 = op ∧ field1 w0 = func := by
  simpa using opcode_and_func_of_mask h

/-- R103 for one row of its table: the row selects the words that have the value `m` under `mask`, and does not use the
bits `u0` of the first word and `u1` of the second. -/
def IgnoresUnused (m mask u0 u1 : Word) : Prop :=
  ∀ w0 w1 d0 d1 : Word, w0 &&& mask = m → decodeWords (w0 ^^^ (d0 &&& u0)) (w1 ^^^ (d1 &&& u1)) = decodeWords w0 w1

/-- A row ignores its unused bits if its words decode by their register fields and second word alone, and the row's
decoder `row` ignores the unused bits there. -/
theorem ignoresUnused_of {m mask u0 u1 : Word} (row : Nibble → Nibble → Word → Option Instr)
    (hdecode : ∀ w0 w1, w0 &&& mask = m → decodeWords w0 w1 = row (field3 w0) (field2 w0) w1)
    (hunused : u0 &&& mask = 0#16)
    (hrow : ∀ d s w e3 e2 e1,
      row (d ^^^ (e3 &&& field3 u0)) (s ^^^ (e2 &&& field2 u0)) (w ^^^ (e1 &&& u1)) = row d s w) :
    IgnoresUnused m mask u0 u1 := by
  intro w0 w1 d0 d1 h
  have hfield3 : field3 (w0 ^^^ (d0 &&& u0)) = field3 w0 ^^^ (field3 d0 &&& field3 u0) := by
    simp only [field3, BitVec.extractLsb'_xor, BitVec.extractLsb'_and]
  have hfield2 : field2 (w0 ^^^ (d0 &&& u0)) = field2 w0 ^^^ (field2 d0 &&& field2 u0) := by
    simp only [field2, BitVec.extractLsb'_xor, BitVec.extractLsb'_and]
  rw [hdecode _ _ ((xor_unused_and_mask hunused w0 d0).trans h), hdecode _ _ h, hfield3, hfield2, hrow]

/-- A row of opcode 0xC. -/
theorem ignoresUnused_misc (func : Nibble) {u0 : Word} (hunused : u0 &&& 0xF00F#16 = 0#16)
    (hrow : ∀ d s e3 e2, decodeMisc (d ^^^ (e3 &&& field3 u0)) (s ^^^ (e2 &&& field2 u0)) func = decodeMisc d s func) :
    IgnoresUnused (wordOf 0xC#4 0#4 0#4 func) 0xF00F#16 u0 0#16 := by
  refine ignoresUnused_of (fun d s _ => decodeMisc d s func) (fun w0 w1 h => ?_) hunused
    fun d s _ e3 e2 _ => hrow d s e3 e2
  obtain ⟨hop, hfunc⟩ := opcodeOf_and_field1_of_mask h
  rw [decodeWords_misc _ hop, hfunc]

/-- A row of opcode 0xC with no operand at all. -/
theorem ignoresUnused_misc_bare (func : Nibble) (hrow : ∀ d s d' s', decodeMisc d s func = decodeMisc d' s' func) :
    IgnoresUnused (wordOf 0xC#4 0#4 0#4 func) 0xF00F#16 0x0FF0#16 0#16 :=
  ignoresUnused_misc func rfl fun _ _ _ _ => hrow ..

/-- A row of opcode 0xE whose function has no operand. -/
theorem ignoresUnused_system (func : Nibble) (hrow : ∀ b b', decodeSystem func b = decodeSystem func b') :
    IgnoresUnused (wordOfImm8 0xE#4 func 0x00#8) 0xFF00#16 0x00FF#16 0#16 := by
  intro w0 w1 d0 d1 h
  have h' := (xor_unused_and_mask (u := 0x00FF#16) rfl w0 d0).trans h
  rw [decodeWords_system_func h, decodeWords_system_func h']
  exact hrow ..

/-- A row of opcode 0xF. -/
theorem ignoresUnused_extended (func : Nibble) {u0 u1 : Word} (hunused : u0 &&& 0xF00F#16 = 0#16)
    (hrow : ∀ d s w e3 e2 e1, decodeExtended (d ^^^ (e3 &&& field3 u0)) (s ^^^ (e2 &&& field2 u0)) func
      (w ^^^ (e1 &&& u1)) = decodeExtended d s func w) :
    IgnoresUnused (wordOf 0xF#4 0#4 0#4 func) 0xF00F#16 u0 u1 := by
  refine ignoresUnused_of (fun d s w => decodeExtended d s func w) (fun w0 w1 h => ?_) hunused hrow
  obtain ⟨hop, hfunc⟩ := opcodeOf_and_field1_of_mask h
  rw [decodeWords_extended _ hop, hfunc]

/-- A row of opcode 0xF whose operand is an amount, bits 3:0 of the second word. -/
theorem ignoresUnused_extended_amount (func : Nibble)
    (hrow : ∀ d s w w', w'.extractLsb' 0 4 = w.extractLsb' 0 4 →
      decodeExtended d s func w' = decodeExtended d s func w) :
    IgnoresUnused (wordOf 0xF#4 0#4 0#4 func) 0xF00F#16 0x0000#16 0xFFF0#16 := by
  refine ignoresUnused_extended func rfl fun d s w e3 e2 e1 => ?_
  have hamount : (w ^^^ (e1 &&& 0xFFF0#16)).extractLsb' 0 4 = w.extractLsb' 0 4 := by
    simp [BitVec.extractLsb'_xor, BitVec.extractLsb'_and]
  simpa [field3, field2] using hrow d s w _ hamount

/-- DAA (44_muldiv.md R239) has no use for its bits 7:4. -/
theorem ignoresUnused_daa : IgnoresUnused 0xB007#16 0xF00F#16 0x00F0#16 0#16 := by
  refine ignoresUnused_of (fun d _ _ => some (.daa d)) (fun w0 w1 h => ?_) rfl (by simp [field3])
  obtain ⟨hop, hfunc⟩ := opcodeOf_and_field1_of_mask (op := 0xB#4) (func := 0x7#4) h
  rw [decodeWords_mulDiv hop, hfunc]
  rfl

/-- Settles O4: each row's decoder drops the fields the row does not use. -/
theorem unusedFieldsAreIgnored : Obligations.UnusedFieldsAreIgnored := by
  unfold Obligations.UnusedFieldsAreIgnored
  simp only [List.forall_mem_cons]
  exact ⟨ignoresUnused_daa,
    ignoresUnused_misc 0x0#4 rfl (by simp [decodeMisc, field2]),
    ignoresUnused_misc 0x1#4 rfl (by simp [decodeMisc, field3]),
    ignoresUnused_misc_bare 0x5#4 fun _ _ _ _ => rfl, ignoresUnused_misc_bare 0x6#4 fun _ _ _ _ => rfl,
    ignoresUnused_misc_bare 0x7#4 fun _ _ _ _ => rfl, ignoresUnused_misc_bare 0x8#4 fun _ _ _ _ => rfl,
    ignoresUnused_misc_bare 0x9#4 fun _ _ _ _ => rfl, ignoresUnused_misc_bare 0xA#4 fun _ _ _ _ => rfl,
    ignoresUnused_misc_bare 0xB#4 fun _ _ _ _ => rfl,
    ignoresUnused_misc 0xC#4 rfl (by simp [decodeMisc, field3]),
    ignoresUnused_misc 0xD#4 rfl (by simp [decodeMisc, field2]),
    ignoresUnused_system 0x0#4 fun _ _ => rfl, ignoresUnused_system 0x1#4 fun _ _ => rfl,
    ignoresUnused_system 0x2#4 fun _ _ => rfl, ignoresUnused_system 0x3#4 fun _ _ => rfl,
    ignoresUnused_system 0x4#4 fun _ _ => rfl, ignoresUnused_system 0x6#4 fun _ _ => rfl,
    ignoresUnused_system 0x7#4 fun _ _ => rfl, ignoresUnused_system 0x8#4 fun _ _ => rfl,
    ignoresUnused_system 0x9#4 fun _ _ => rfl,
    ignoresUnused_extended 0x7#4 rfl (by simp [decodeExtended, field3]),
    ignoresUnused_extended 0x8#4 rfl (by simp [decodeExtended]),
    ignoresUnused_extended 0x9#4 rfl (by simp [decodeExtended]),
    ignoresUnused_extended 0xA#4 rfl (by simp [decodeExtended, field3]),
    ignoresUnused_extended 0xB#4 rfl (by simp [decodeExtended, field3, BitVec.extractLsb'_xor, BitVec.extractLsb'_and]),
    ignoresUnused_extended 0xC#4 rfl (by simp [decodeExtended, field2, BitVec.extractLsb'_xor, BitVec.extractLsb'_and]),
    ignoresUnused_extended_amount 0xD#4 fun _ _ _ _ h => by simp [decodeExtended, h],
    ignoresUnused_extended_amount 0xE#4 fun _ _ _ _ h => by simp [decodeExtended, h],
    ignoresUnused_extended_amount 0xF#4 fun _ _ _ _ h => by simp [decodeExtended, h],
    List.forall_mem_nil _⟩

/-! ### Opcode 0x9 -/

/-- The offset of a J is the three fields below the opcode. -/
theorem offset12Of_wordOf (op d s f : Nibble) : offset12Of (wordOf op d s f) = d ++ s ++ f := by
  refine BitVec.eq_of_getLsbD_eq fun k hk => ?_
  simp only [offset12Of, wordOf, BitVec.getLsbD_extractLsb', BitVec.getLsbD_append]
  interval_cases k <;> simp

/-- Settles O5: the three patterns of R101, tried in their order. -/
theorem jumpOpcodeDecodesByPriority : Obligations.JumpOpcodeDecodesByPriority := by
  intro d s f w1
  have hword : (0x9#4 ++ d ++ s ++ f : Word) = wordOf 0x9#4 d s f := rfl
  rw [hword, decodeWords_jump _ (opcodeOf_wordOf ..), decodeJump, field1_wordOf, field2_wordOf, field3_wordOf,
    offset12Of_wordOf, apply_ite some, apply_ite some]

/-- Settles O6: the eight words, evaluated. -/
theorem sourceExampleWordsDecode : Obligations.SourceExampleWordsDecode :=
  ⟨rfl, rfl, rfl, rfl, rfl, rfl, rfl, rfl⟩

/-! ### What the decoder answers -/

/-- The instruction has an encoding, of `n` bytes. -/
def EncodedIn (n : Nat) (i : Instr) : Prop := i.wellFormed = true ∧ i.lengthBytes = n

section
variable {d s f : Nibble} {i : Instr}

theorem decodeLoad_encodedIn (h : decodeLoad d s f = some i) : EncodedIn 2 i := by
  unfold decodeLoad at h
  split at h <;> cases h <;> exact ⟨rfl, rfl⟩

theorem decodeStore_encodedIn (h : decodeStore d s f = some i) : EncodedIn 2 i := by
  unfold decodeStore at h
  split at h <;> cases h <;> exact ⟨rfl, rfl⟩

theorem decodeBranch_encodedIn {b : Byte} (h : decodeBranch f b = some i) : EncodedIn 2 i := by
  unfold decodeBranch at h
  split at h <;> cases h <;> exact ⟨rfl, rfl⟩

theorem decodeShift_encodedIn (h : decodeShift d s f = some i) : EncodedIn 2 i := by
  unfold decodeShift at h
  split at h <;> cases h <;> exact ⟨rfl, rfl⟩

theorem decodeMulDiv_encodedIn (h : decodeMulDiv d s f = some i) : EncodedIn 2 i := by
  unfold decodeMulDiv at h
  split at h <;> cases h <;> exact ⟨rfl, rfl⟩

theorem decodeMisc_encodedIn (h : decodeMisc d s f = some i) : EncodedIn 2 i := by
  unfold decodeMisc at h
  split at h <;> cases h <;> exact ⟨rfl, rfl⟩

theorem decodeIo_encodedIn (h : decodeIo d s f = some i) : EncodedIn 2 i := by
  unfold decodeIo at h
  split at h <;> cases h <;> exact ⟨rfl, rfl⟩

theorem decodeSystem_encodedIn {b : Byte} (h : decodeSystem f b = some i) : EncodedIn 2 i := by
  unfold decodeSystem at h
  split at h <;> cases h <;> exact ⟨rfl, rfl⟩

theorem decodeExtended_encodedIn {w1 : Word} (h : decodeExtended d s f w1 = some i) : EncodedIn 4 i := by
  unfold decodeExtended at h
  split at h <;> cases h <;> exact ⟨rfl, rfl⟩

end

/-- What opcode 0x9 decodes to has an encoding: JALR and JR always, J because its patterns came before (R101). -/
theorem decodeJump_encodedIn (w0 : Word) : EncodedIn 2 (decodeJump w0) := by
  obtain ⟨-, h⟩ | ⟨-, -, h⟩ | ⟨hjalr, hjr, h⟩ := decodeJump_cases w0 <;> rw [h]
  · exact ⟨rfl, rfl⟩
  · exact ⟨rfl, rfl⟩
  · have hfield3 : (offset12Of w0).extractLsb' 8 4 = field3 w0 := by simp [offset12Of, field3]
    have hfield1 : (offset12Of w0).extractLsb' 0 4 = field1 w0 := by simp [offset12Of, field1]
    refine ⟨(wellFormed_j_iff _).2 ?_, rfl⟩
    rw [hfield3, hfield1]
    exact ⟨hjalr, hjr⟩

/-- Settles O7: each opcode's decoder answers instructions of the encoding, of four bytes for opcode 0xF alone. -/
theorem decodedInstructionIsWellFormed : Obligations.DecodedInstructionIsWellFormed := by
  intro w0 w1 i h
  show EncodedIn _ i
  rw [← opcodeOf_toNat]
  unfold decodeWords at h
  dsimp only at h
  split at h
  case h_17 => cases h
  all_goals rename_i hop; rw [hop]
  case h_7 => exact decodeLoad_encodedIn h
  case h_8 => exact decodeStore_encodedIn h
  case h_9 => exact decodeBranch_encodedIn h
  case h_10 => cases h; exact decodeJump_encodedIn w0
  case h_11 => exact decodeShift_encodedIn h
  case h_12 => exact decodeMulDiv_encodedIn h
  case h_13 => exact decodeMisc_encodedIn h
  case h_14 => exact decodeIo_encodedIn h
  case h_15 => exact decodeSystem_encodedIn h
  case h_16 => exact decodeExtended_encodedIn h
  all_goals cases h; exact ⟨rfl, rfl⟩

end Sys2Proof.Machine
end

section
/-! PROOF. What an instruction can do, said once. `exec_ending` gives the ending each of the 109 meanings has, with what
the statements ask of the instructions that share it; `exec_completion` reads off the state it completes in. What every
step keeps, and what only some instructions change, is then a split over endings and not over instructions. -/

namespace Sys2Proof.Machine

/-! ### Groups of instructions -/

/-- The word loads with their displacement and length (41_load_store.md R142 to R149; 48_extended.md R316). -/
def wordLoads (rd rs1 : RegNum) (imm16 : Word) : List (Instr × Word × Word) :=
  [(.lw rd rs1, 0#16, 2#16), (.lwP2 rd rs1, 2#16, 2#16), (.lwP4 rd rs1, 4#16, 2#16), (.lwP6 rd rs1, 6#16, 2#16),
    (.lwM2 rd rs1, 0xFFFE#16, 2#16), (.lwM4 rd rs1, 0xFFFC#16, 2#16), (.lwx rd rs1 imm16, imm16, 4#16)]

/-- The word stores (R152 to R158; R317). -/
def wordStores (rv rs1 : RegNum) (imm16 : Word) : List (Instr × Word × Word) :=
  [(.sw rv rs1, 0#16, 2#16), (.swP2 rv rs1, 2#16, 2#16), (.swP4 rv rs1, 4#16, 2#16), (.swP6 rv rs1, 6#16, 2#16),
    (.swM2 rv rs1, 0xFFFE#16, 2#16), (.swM4 rv rs1, 0xFFFC#16, 2#16), (.swx rv rs1 imm16, imm16, 4#16)]

/-- A word access with its displacement, its length left out. -/
def withoutLength (p : Instr × Word × Word) : Instr × Word := (p.1, p.2.1)

/-- The instructions that write N, Z, C or V (10_state.md R35), SWI and RETI being TRAP_MODEL's. -/
def WritesFlags (i : Instr) : Prop :=
  (∃ rd rs1 rs2, i = .add rd rs1 rs2 ∨ i = .sub rd rs1 rs2 ∨ i = .and rd rs1 rs2 ∨ i = .or rd rs1 rs2 ∨
    i = .xor rd rs1 rs2) ∨
  (∃ rd imm8, i = .addi rd imm8) ∨ (∃ rd rs1, i = .cmp rd rs1 ∨ i = .test rd rs1 ∨ i = .rcl rd rs1 ∨ i = .rcr rd rs1) ∨
  (∃ rd imm16, i = .cmpix rd imm16) ∨ (∃ rs1, i = .setf rs1) ∨ i = .scf ∨ i = .ccf ∨ i = .reti ∨
  ∃ imm8, i = .swi imm8

/-- TRAP_MODEL's instructions (47_system.md R294, R295). -/
def IsTrap (i : Instr) : Prop := i = .reti ∨ ∃ imm8, i = .swi imm8

theorem IsTrap.writesFlags {i : Instr} (h : IsTrap i) : WritesFlags i := by
  obtain rfl | ⟨imm8, rfl⟩ := h <;> simp [WritesFlags]

/-- The jumps whose target is a register or an absolute address (42_branch_jump.md R189, R190; R319, R320). -/
def JumpsAnywhere (i : Instr) : Prop :=
  (∃ rs, i = .jr rs) ∨ (∃ rd rs, i = .jalr rd rs) ∨ ∃ a, i = .jx a ∨ i = .jalx a

/-- The port reads (46_io.md R282, R284; R322). -/
def ReadsPort (i : Instr) : Prop := (∃ rd q, i = .ini rd q) ∨ (∃ rd rs1, i = .inp rd rs1) ∨ ∃ rd q, i = .inx rd q

/-- The port writes (46_io.md R283, R285; R323). -/
def WritesPort (i : Instr) : Prop := (∃ rv q, i = .outi rv q) ∨ (∃ rv rs1, i = .out rv rs1) ∨ ∃ rv q, i = .outx rv q

/-- What has an encoding and no operation, with the name its stop gives (44_muldiv.md R239; 45_stack_misc.md R256). -/
def HasNoOperation (i : Instr) (x : UnspecifiedOp) : Prop :=
  (x = .daa ∧ ∃ rd, i = .daa rd) ∨
    (i, x) ∈ [(Instr.ldi, UnspecifiedOp.ldi), (.ldd, .ldd), (.ldir, .ldir), (.lddr, .lddr), (.cpir, .cpir),
      (.fill, .fill)]

/-! ### Parity of addresses -/

/-- The parity of a sum. -/
theorem isOdd_add (a b : Word) : isOdd (a + b) = (isOdd a ^^ isOdd b) := by
  rw [isOdd, BitVec.getLsbD_add (by decide), BitVec.carry_zero, Bool.xor_false]
  rfl

/-- Going on by an even length keeps the parity. -/
theorem isOdd_add_even (a : Word) {b : Word} (h : isOdd b = false) : isOdd (a + b) = isOdd a := by
  rw [isOdd_add, h, Bool.xor_false]

/-- A displacement counted in words is even (30_encoding.md R93, R94). -/
theorem isOdd_shiftLeft_one (d : Word) : isOdd (d <<< 1) = false := by simp [isOdd]

/-- A relative target is as odd as the pc it is counted from. -/
theorem isOdd_relative (s : State) {disp : Word} (h : isOdd disp = false) : isOdd (s.relative disp) = isOdd s.pc := by
  rw [State.relative, isOdd_add_even _ h, isOdd_add_even _ rfl]

/-! ### The word accesses -/

/-- Base plus no displacement is the base. -/
theorem ea_zero (s : State) (r : RegNum) : s.ea r 0#16 = s.readReg r := BitVec.add_zero _

/-- Each word load is `State.loadInto` at its own displacement. -/
theorem exec_wordLoad (rd rs1 : RegNum) (imm16 : Word) (s : State) :
    ∀ p ∈ wordLoads rd rs1 imm16, exec p.1 s = s.loadInto rd (s.readReg rs1 + p.2.1) p.2.2 := by
  simp only [wordLoads, List.forall_mem_cons]
  exact ⟨rfl, rfl, rfl, rfl, rfl, rfl, rfl, List.forall_mem_nil _⟩

/-- Each word store is `State.storeFrom` at its own displacement. -/
theorem exec_wordStore (rv rs1 : RegNum) (imm16 : Word) (s : State) :
    ∀ p ∈ wordStores rv rs1 imm16, exec p.1 s = s.storeFrom (s.readReg rs1 + p.2.1) (s.readReg rv) p.2.2 := by
  simp only [wordStores, List.forall_mem_cons]
  exact ⟨rfl, rfl, rfl, rfl, rfl, rfl, rfl, List.forall_mem_nil _⟩

theorem wordLoads_len_even {rd rs1 : RegNum} {imm16 : Word} : ∀ p ∈ wordLoads rd rs1 imm16, isOdd p.2.2 = false := by
  simp only [wordLoads, List.forall_mem_cons]
  exact ⟨rfl, rfl, rfl, rfl, rfl, rfl, rfl, List.forall_mem_nil _⟩

theorem wordStores_len_even {rv rs1 : RegNum} {imm16 : Word} : ∀ p ∈ wordStores rv rs1 imm16, isOdd p.2.2 = false := by
  simp only [wordStores, List.forall_mem_cons]
  exact ⟨rfl, rfl, rfl, rfl, rfl, rfl, rfl, List.forall_mem_nil _⟩

/-- LB is `State.loadByteInto` at its base (R143). -/
theorem exec_lb (rd rs1 : RegNum) (s : State) :
    exec (.lb rd rs1) s = s.loadByteInto rd (s.readReg rs1) (·.signExtend 16) :=
  congrArg (s.loadByteInto rd · (·.signExtend 16)) (ea_zero s rs1)

/-- LBU (R144). -/
theorem exec_lbu (rd rs1 : RegNum) (s : State) :
    exec (.lbu rd rs1) s = s.loadByteInto rd (s.readReg rs1) (·.zeroExtend 16) :=
  congrArg (s.loadByteInto rd · (·.zeroExtend 16)) (ea_zero s rs1)

/-- SB (R153). -/
theorem exec_sb (rv rs1 : RegNum) (s : State) :
    exec (.sb rv rs1) s = s.storeByteFrom (s.readReg rs1) (s.readReg rv).lowByte :=
  congrArg (s.storeByteFrom · (s.readReg rv).lowByte) (ea_zero s rs1)

/-! ### The endings -/

/-- How the meaning of `i` at `s` ends. -/
inductive Ending (i : Instr) (s : State) : Prop
  /-- one register, then the next instruction -/
  | register (rd : RegNum) (v len : Word) (h : exec i s = s.finish rd v len) (hlen : isOdd len = false)
  /-- the flags and one register -/
  | flagsAndRegister (hi : WritesFlags i) (rd : RegNum) (r : Word × Flags) (h : exec i s = s.finishFlags rd r 2#16)
  /-- the flags alone -/
  | flags (hi : WritesFlags i) (f : Flags) (len : Word) (h : exec i s = .next ((s.setFlags f).advance len))
      (hlen : isOdd len = false)
  | wordLoad (rd rs1 : RegNum) (imm16 d len : Word) (hi : (i, d, len) ∈ wordLoads rd rs1 imm16)
  | byteLoad (rd rs1 : RegNum) (ext : Byte → Word) (hi : i ∈ [Instr.lb rd rs1, .lbu rd rs1])
      (h : exec i s = s.loadByteInto rd (s.readReg rs1) ext)
  | wordStore (rv rs1 : RegNum) (imm16 d len : Word) (hi : (i, d, len) ∈ wordStores rv rs1 imm16)
  | byteStore (rv rs1 : RegNum) (hi : i = .sb rv rs1)
  | push (rs1 : RegNum) (hi : i = .push rs1)
  | pop (rd : RegNum) (hi : i = .pop rd)
  /-- a branch or J: an even pc stays even -/
  | relativeJump (a : Word) (h : exec i s = .next (s.jumpTo a)) (ha : isOdd a = isOdd s.pc)
  /-- a jump to any address, with or without a link -/
  | jump (hi : JumpsAnywhere i) (rd : RegNum) (link a : Word) (h : exec i s = .next ((s.writeReg rd link).jumpTo a))
  | portRead (hi : ReadsPort i) (rd : RegNum) (p : Byte) (len : Word) (h : exec i s = s.portInto rd p len)
      (hlen : isOdd len = false)
  | portWrite (hi : WritesPort i) (p : Byte) (v len : Word) (h : exec i s = s.portFrom p v len)
      (hlen : isOdd len = false)
  | exx (hi : i = .exx)
  | getf (rd : RegNum) (hi : i = .getf rd)
  | setf (rs1 : RegNum) (hi : i = .setf rs1)
  | nop (hi : i = .nop)
  | halt (hi : i = .halt)
  | setIe (b : Bool) (h : exec i s = .next ((s.setIe b).advance 2#16))
  | setI (b : Bool) (h : exec i s = .next ((s.setI b).advance 2#16))
  | trap (hi : IsTrap i) (e : TrapEffect) (h : exec i s = .next (s.applyTrap e))
  | noOperation (x : UnspecifiedOp) (hi : HasNoOperation i x) (h : exec i s = .fault (.unspecified x))

/-- A branch ends in a relative jump. -/
theorem Ending.of_branchIf {i : Instr} {s : State} {taken : Bool} {offset8 : Byte}
    (h : exec i s = s.branchIf taken offset8) : Ending i s := by
  refine .relativeJump _ h ?_
  split
  · exact isOdd_relative s (isOdd_shiftLeft_one _)
  · exact isOdd_add_even _ rfl

/-- Every instruction has its ending. -/
theorem exec_ending (i : Instr) (s : State) : Ending i s := by
  cases i with
  | add rd rs1 rs2 | sub rd rs1 rs2 | and rd rs1 rs2 | or rd rs1 rs2 | xor rd rs1 rs2 =>
    exact .flagsAndRegister (by simp [WritesFlags]) rd _ rfl
  | addi rd imm8 => exact .flagsAndRegister (by simp [WritesFlags]) rd _ rfl
  | rcl rd rs1 => exact .flagsAndRegister (by simp [WritesFlags]) rd (_, { s.flags with c := (s.readReg rs1).msb }) rfl
  | rcr rd rs1 =>
    exact .flagsAndRegister (by simp [WritesFlags]) rd (_, { s.flags with c := (s.readReg rs1).getLsbD 0 }) rfl
  | cmp | test => exact .flags (by simp [WritesFlags]) _ 2#16 rfl rfl
  | scf | ccf => exact .flags (by simp [WritesFlags]) { s.flags with c := _ } 2#16 rfl rfl
  | cmpix => exact .flags (by simp [WritesFlags]) _ 4#16 rfl rfl
  | lw rd rs1 | lwP2 rd rs1 | lwP4 rd rs1 | lwP6 rd rs1 | lwM2 rd rs1 | lwM4 rd rs1 =>
    exact .wordLoad rd rs1 0#16 _ 2#16 (by simp [wordLoads]; rfl)
  | lwx rd rs1 imm16 => exact .wordLoad rd rs1 imm16 imm16 4#16 (by simp [wordLoads])
  | lb rd rs1 => exact .byteLoad rd rs1 _ (by simp) (exec_lb rd rs1 s)
  | lbu rd rs1 => exact .byteLoad rd rs1 _ (by simp) (exec_lbu rd rs1 s)
  | sw rv rs1 | swP2 rv rs1 | swP4 rv rs1 | swP6 rv rs1 | swM2 rv rs1 | swM4 rv rs1 =>
    exact .wordStore rv rs1 0#16 _ 2#16 (by simp [wordStores]; rfl)
  | swx rv rs1 imm16 => exact .wordStore rv rs1 imm16 imm16 4#16 (by simp [wordStores])
  | sb rv rs1 => exact .byteStore rv rs1 rfl
  | push rs1 => exact .push rs1 rfl
  | pop rd => exact .pop rd rfl
  | beq | bne | blt | bge | bltu | bgeu | bmi | bpl | bvs | bvc | bcs | bcc | bgt | ble | bhi | bls =>
    exact .of_branchIf rfl
  | j => exact .relativeJump _ rfl (isOdd_relative s (isOdd_shiftLeft_one _))
  | jr rs => exact .jump (by simp [JumpsAnywhere]) 0#4 0#16 _ rfl
  | jx a => exact .jump (by simp [JumpsAnywhere]) 0#4 0#16 _ rfl
  | jalr | jalx => exact .jump (by simp [JumpsAnywhere]) _ _ _ rfl
  | ini | inp | inx => exact .portRead (by simp [ReadsPort]) _ _ _ rfl rfl
  | outi | out | outx => exact .portWrite (by simp [WritesPort]) _ _ _ rfl rfl
  | exx => exact .exx rfl
  | getf rd => exact .getf rd rfl
  | setf rs1 => exact .setf rs1 rfl
  | nop => exact .nop rfl
  | halt => exact .halt rfl
  | di | ei => exact .setIe _ rfl
  | sei | cli => exact .setI _ rfl
  | reti | swi => exact .trap (by simp [IsTrap]) _ rfl
  | daa | ldi | ldd | ldir | lddr | cpir | fill => exact .noOperation _ (by simp [HasNoOperation]) rfl
  | _ => exact .register _ _ _ rfl rfl

/-! ### The states they complete in -/

/-- The state `t` in which `i` completes from `s`. -/
inductive Completion (i : Instr) (s t : State) : Prop
  /-- one register, a load's among them, then the next instruction -/
  | register (rd : RegNum) (v len : Word) (hlen : isOdd len = false) (ht : t = (s.writeReg rd v).advance len)
  | flagsAndRegister (hi : WritesFlags i) (rd : RegNum) (v : Word) (f : Flags)
      (ht : t = ((s.setFlags f).writeReg rd v).advance 2#16)
  | flags (hi : WritesFlags i) (f : Flags) (len : Word) (hlen : isOdd len = false) (ht : t = (s.setFlags f).advance len)
  | wordStore (rv rs1 : RegNum) (imm16 d len v : Word) (hi : (i, d, len) ∈ wordStores rv rs1 imm16)
      (hlow : s.writable (s.readReg rs1 + d) = true) (hhigh : s.writable (s.readReg rs1 + d + 1#16) = true)
      (ht : t = (s.setWord (s.readReg rs1 + d) v).advance len)
  | byteStore (rv rs1 : RegNum) (b : Byte) (hi : i = .sb rv rs1) (hbyte : s.writable (s.readReg rs1) = true)
      (ht : t = (s.setByte (s.readReg rs1) b).advance 2#16)
  | push (rs1 : RegNum) (v : Word) (hi : i = .push rs1) (hlow : s.writable s.pushSlot = true)
      (hhigh : s.writable (s.pushSlot + 1#16) = true)
      (ht : t = ((s.setWord s.pushSlot v).writeReg regSP s.pushSlot).advance 2#16)
  | pop (rd : RegNum) (v sp : Word) (ht : t = ((s.writeReg regSP sp).writeReg rd v).advance 2#16)
  | relativeJump (a : Word) (ha : isOdd a = isOdd s.pc) (ht : t = s.jumpTo a)
  | jump (hi : JumpsAnywhere i) (rd : RegNum) (link a : Word) (ht : t = (s.writeReg rd link).jumpTo a)
  | portRead (hi : ReadsPort i) (rd : RegNum) (p : Byte) (len : Word) (hlen : isOdd len = false)
      (ht : t = ((s.recordPort (.read p (s.portAnswer p))).writeReg rd (s.portAnswer p)).advance len)
  | portWrite (hi : WritesPort i) (p : Byte) (v len : Word) (hlen : isOdd len = false)
      (ht : t = (s.recordPort (.write p v)).advance len)
  | exx (hi : i = .exx) (ht : t = s.swapAlternates.advance 2#16)
  | getf (rd : RegNum) (v : Word) (ht : t = (s.drawFree.writeReg rd v).advance 2#16)
  | setf (hi : WritesFlags i) (f : Byte) (ht : t = (s.writeFlagsByte f).advance 2#16)
  | nop (ht : t = s.advance 2#16)
  | halt (hi : i = .halt) (ht : t = s.halt.advance 2#16)
  | setIe (b : Bool) (ht : t = (s.setIe b).advance 2#16)
  | setI (b : Bool) (ht : t = (s.setI b).advance 2#16)
  | trap (hi : IsTrap i) (e : TrapEffect) (ht : t = s.applyTrap e)

theorem next_inj {s t : State} (h : (Host.Outcome.next s : Result) = .next t) : t = s :=
  (Host.Outcome.next.inj h).symm

/-- If PUSH completes, its slot is RAM, the word is there and SP points to it (45_stack_misc.md R250). -/
theorem execPush_next {rs1 : RegNum} {s t : State} (h : execPush rs1 s = .next t) :
    s.writable s.pushSlot = true ∧ s.writable (s.pushSlot + 1#16) = true ∧
      t = ((s.setWord s.pushSlot (s.readReg rs1)).writeReg regSP s.pushSlot).advance 2#16 := by
  unfold execPush at h
  split at h
  next u hu =>
    obtain ⟨-, hlow, hhigh, rfl⟩ := storeWord_eq_ok hu
    exact ⟨hlow, hhigh, next_inj h⟩
  next => cases h

/-- If POP completes, SP has moved and the word is in its register (R251). -/
theorem execPop_next {rd : RegNum} {s t : State} (h : execPop rd s = .next t) :
    t = ((s.writeReg regSP (s.readReg regSP + 2#16)).writeReg rd (s.wordAt (s.readReg regSP))).advance 2#16 := by
  unfold execPop at h
  split at h
  next => cases h
  next =>
    split at h
    next v hv =>
      obtain ⟨-, -, -, rfl⟩ := loadWord_eq_ok hv
      exact finish_next h
    next => cases h

/-- Every state an instruction completes in is one of these. -/
theorem exec_completion {i : Instr} {s t : State} (hnext : exec i s = .next t) : Completion i s t := by
  cases exec_ending i s with
  | register rd v len h hlen => exact .register rd v len hlen (finish_next (h.symm.trans hnext))
  | flagsAndRegister hi rd r h => exact .flagsAndRegister hi rd r.1 r.2 (finish_next (h.symm.trans hnext))
  | flags hi f len h hlen => exact .flags hi f len hlen (next_inj (h.symm.trans hnext))
  | wordLoad rd rs1 imm16 d len hi =>
    obtain ⟨-, -, -, ht⟩ := loadInto_next ((exec_wordLoad rd rs1 imm16 s _ hi).symm.trans hnext)
    exact .register rd _ len (wordLoads_len_even _ hi) ht
  | byteLoad rd rs1 ext hi h =>
    obtain ⟨-, ht⟩ := loadByteInto_next (h.symm.trans hnext)
    exact .register rd _ 2#16 rfl ht
  | wordStore rv rs1 imm16 d len hi =>
    obtain ⟨-, hlow, hhigh, ht⟩ := storeFrom_next ((exec_wordStore rv rs1 imm16 s _ hi).symm.trans hnext)
    exact .wordStore rv rs1 imm16 d len _ hi hlow hhigh ht
  | byteStore rv rs1 hi =>
    subst hi
    obtain ⟨hbyte, ht⟩ := storeByteFrom_next ((exec_sb rv rs1 s).symm.trans hnext)
    exact .byteStore rv rs1 _ rfl hbyte ht
  | push rs1 hi =>
    subst hi
    obtain ⟨hlow, hhigh, ht⟩ := execPush_next hnext
    exact .push rs1 _ rfl hlow hhigh ht
  | pop rd hi =>
    subst hi
    exact .pop rd _ _ (execPop_next hnext)
  | relativeJump a h ha => exact .relativeJump a ha (next_inj (h.symm.trans hnext))
  | jump hi rd link a h => exact .jump hi rd link a (next_inj (h.symm.trans hnext))
  | portRead hi rd p len h hlen => exact .portRead hi rd p len hlen (portInto_next (h.symm.trans hnext))
  | portWrite hi p v len h hlen => exact .portWrite hi p v len hlen (portFrom_next (h.symm.trans hnext))
  | exx hi =>
    subst hi
    exact .exx rfl (next_inj hnext)
  | getf rd hi =>
    subst hi
    exact .getf rd _ (finish_next hnext)
  | setf rs1 hi =>
    subst hi
    exact .setf (by simp [WritesFlags]) _ (next_inj hnext)
  | nop hi =>
    subst hi
    exact .nop (next_inj hnext)
  | halt hi =>
    subst hi
    exact .halt rfl (next_inj hnext)
  | setIe b h => exact .setIe b (next_inj (h.symm.trans hnext))
  | setI b h => exact .setI b (next_inj (h.symm.trans hnext))
  | trap hi e h => exact .trap hi e (next_inj (h.symm.trans hnext))
  | noOperation x hi h => cases h.symm.trans hnext

/-! ### What every step keeps -/

/-- A property every meaning keeps is kept by every step: a halted core stays as it is (10_state.md R29). -/
theorem step_keeps {P : State → State → Prop} (hrefl : ∀ s, P s s)
    (hexec : ∀ {i s t}, exec i s = .next t → P s t) {s t : State} (h : step s = .next t) : P s t := by
  obtain ⟨-, rfl⟩ | ⟨-, w0, w1, i, -, -, hi⟩ := step_next h
  · exact hrefl _
  · exact hexec hi

/-- Every meaning keeps memory canonical: only the memory operations touch it, and each keeps it so. -/
theorem exec_keeps_memory_wf {i : Instr} {s t : State} (h : exec i s = .next t) (hwf : s.mem.wf = true) :
    t.mem.wf = true := by
  cases exec_completion h with
  | wordStore rv rs1 imm16 d len v hi hlow hhigh ht => exact ht ▸ setWord_wf _ _ hwf
  | byteStore rv rs1 b hi hbyte ht => exact ht ▸ setByte_wf _ _ hwf
  | push rs1 v hi hlow hhigh ht => exact ht ▸ setWord_wf _ _ hwf
  | trap hi e ht => exact ht ▸ applyTrap_wf e hwf
  | _ => simp_all

/-- Every meaning keeps I related to IE: those that write one write the other by the relation. -/
theorem exec_keeps_interruptBitsRelated {i : Instr} {s t : State} (h : exec i s = .next t)
    (hrel : s.InterruptBitsRelated) : t.InterruptBitsRelated := by
  unfold State.InterruptBitsRelated at hrel ⊢
  cases exec_completion h with
  | setIe b ht => simp [ht, iOf_iOf]
  | setI b ht => simp [ht, iOf_ieOf]
  | setf hi f ht => cases hpos : Config.flagsLayout.posI <;> simp [ht, hpos, hrel, iOf_ieOf]
  | trap hi e ht => simp [ht, iOf_iOf]
  | _ => simp_all

/-- Settles O51: both halves of the invariant are kept by every meaning. -/
theorem stepKeepsTheInvariant : Obligations.StepKeepsTheInvariant := fun _ _ hinv hstep =>
  step_keeps (P := fun s t => s.Inv → t.Inv) (fun _ => id)
    (fun h ⟨hwf, hrel⟩ => ⟨exec_keeps_memory_wf h hwf, exec_keeps_interruptBitsRelated h hrel⟩) hstep hinv

/-- The map of memory stays, and so does every byte that is not RAM. -/
def KeepsWhatIsNotRam (s t : State) : Prop := t.memMap = s.memMap ∧ ∀ a, s.kindAt a ≠ .ram → t.byteAt a = s.byteAt a

/-- A byte that is not RAM is at no address that can be written (20_memory.md R59). -/
theorem ne_of_writable {s : State} {a b : Word} (ha : s.kindAt a ≠ .ram) (hb : s.writable b = true) : a ≠ b := by
  rintro rfl
  exact absurd (writable_eq_false.2 ha) (by simp [hb])

/-- No meaning writes what is not RAM: stores and PUSH check it, and a trap model's writes elsewhere are dropped. -/
theorem exec_keeps_what_is_not_ram {i : Instr} {s t : State} (h : exec i s = .next t) : KeepsWhatIsNotRam s t := by
  cases exec_completion h with
  | wordStore rv rs1 imm16 d len v hi hlow hhigh ht =>
    subst ht
    exact ⟨rfl, fun a ha => byteAt_setWord_other v (ne_of_writable ha hlow) (ne_of_writable ha hhigh)⟩
  | byteStore rv rs1 b hi hbyte ht =>
    subst ht
    exact ⟨rfl, fun a ha => byteAt_setByte_other b (ne_of_writable ha hbyte)⟩
  | push rs1 v hi hlow hhigh ht =>
    subst ht
    exact ⟨rfl, fun a ha => byteAt_setWord_other v (ne_of_writable ha hlow) (ne_of_writable ha hhigh)⟩
  | trap hi e ht =>
    subst ht
    exact ⟨rfl, fun a ha => foldl_pokeRam_read e.bytes s.mem ha⟩
  | _ => simp_all [KeepsWhatIsNotRam]

/-- Settles O52: what every meaning leaves alone, every step does. -/
theorem stepNeverChangesWhatIsNotRam : Obligations.StepNeverChangesWhatIsNotRam :=
  fun _ _ => step_keeps (P := KeepsWhatIsNotRam) (fun _ => ⟨rfl, fun _ _ => rfl⟩) exec_keeps_what_is_not_ram

/-! ### Port accesses -/

/-- A port read makes one access, and the platform's answer is recorded with it. -/
theorem portTrace_of_readsPort {i : Instr} {s t : State} (hi : ReadsPort i) (h : exec i s = .next t) :
    ∃ p, t.portTrace = .read p (Config.portAnswer s.portTrace p) :: s.portTrace := by
  obtain ⟨rd, q, rfl⟩ | ⟨rd, rs1, rfl⟩ | ⟨rd, q, rfl⟩ := hi
  · exact ⟨portOfNibble q, by rw [portInto_next h]; rfl⟩
  · exact ⟨s.portInReg rs1, by rw [portInto_next h]; rfl⟩
  · exact ⟨q, by rw [portInto_next h]; rfl⟩

/-- A port write makes one access. -/
theorem portTrace_of_writesPort {i : Instr} {s t : State} (hi : WritesPort i) (h : exec i s = .next t) :
    ∃ p v, t.portTrace = .write p v :: s.portTrace := by
  obtain ⟨rv, q, rfl⟩ | ⟨rv, rs1, rfl⟩ | ⟨rs1, q, rfl⟩ := hi
  · exact ⟨portOfNibble q, s.readReg rv, by rw [portFrom_next h]; rfl⟩
  · exact ⟨s.portInReg rs1, s.readReg rv, by rw [portFrom_next h]; rfl⟩
  · exact ⟨q, s.readReg rs1, by rw [portFrom_next h]; rfl⟩

/-- Every other instruction makes none. -/
theorem portTrace_of_not_port {i : Instr} {s t : State} (hread : ¬ReadsPort i) (hwrite : ¬WritesPort i)
    (h : exec i s = .next t) : t.portTrace = s.portTrace := by
  cases exec_completion h with
  | portRead hi => exact absurd hi hread
  | portWrite hi => exact absurd hi hwrite
  | _ => simp_all

/-- Settles O53: a step that is not a halted core's is one meaning, and that meaning's instruction is a port read, a
port write, or neither. -/
theorem stepMakesAtMostOnePortAccess : Obligations.StepMakesAtMostOnePortAccess := by
  intro s t hstep
  obtain ⟨hhalted, rfl⟩ | ⟨hrun, w0, w1, i, hfetch, hdecode, hexec⟩ := step_next hstep
  · exact .inl ⟨hhalted, rfl⟩
  by_cases hread : ReadsPort i
  · obtain ⟨p, ht⟩ := portTrace_of_readsPort hread hexec
    exact .inr (.inr ⟨w0, w1, i, _, hrun, hfetch, hdecode, ht, .inl ⟨p, _, rfl, rfl, hread⟩⟩)
  by_cases hwrite : WritesPort i
  · obtain ⟨p, v, ht⟩ := portTrace_of_writesPort hwrite hexec
    exact .inr (.inr ⟨w0, w1, i, _, hrun, hfetch, hdecode, ht, .inr ⟨p, v, rfl, hwrite⟩⟩)
  · have ht := portTrace_of_not_port hread hwrite hexec
    simp only [ReadsPort, WritesPort, not_or, not_exists] at hread hwrite
    obtain ⟨hini, hinp, hinx⟩ := hread
    obtain ⟨houti, hout, houtx⟩ := hwrite
    exact .inr (.inl ⟨w0, w1, i, hrun, hfetch, hdecode, hini, hinp, hinx, houti, hout, houtx, ht⟩)

/-! ### What only some instructions change -/

/-- Settles O54: the endings that write a flag are those of the listed instructions. -/
theorem onlyListedInstructionsChangeFlags : Obligations.OnlyListedInstructionsChangeFlags := by
  intro i s t h hne
  show WritesFlags i
  cases exec_completion h with
  | flagsAndRegister hi => exact hi
  | flags hi => exact hi
  | setf hi => exact hi
  | trap hi => exact hi.writesFlags
  | _ => exact absurd (by simp_all) hne

/-- Settles O55: a store's ending gives the addresses it writes. -/
theorem onlyStoringInstructionsChangeMemory : Obligations.OnlyStoringInstructionsChangeMemory := by
  intro i s t a h hne
  cases exec_completion h with
  | wordStore rv rs1 imm16 d len v hi hlow hhigh ht =>
    subst ht
    refine .inl ⟨rv, rs1, imm16, d, List.mem_map_of_mem (f := withoutLength) hi, ?_⟩
    by_contra hother
    rw [not_or] at hother
    exact hne (byteAt_setWord_other v hother.1 hother.2)
  | byteStore rv rs1 b hi hbyte ht =>
    subst ht
    refine .inr (.inl ⟨rv, rs1, hi, ?_⟩)
    by_contra hother
    exact hne (byteAt_setByte_other b hother)
  | push rs1 v hi hlow hhigh ht =>
    subst ht
    refine .inr (.inr (.inl ⟨rs1, hi, ?_⟩))
    by_contra hother
    rw [not_or] at hother
    exact hne (byteAt_setWord_other v hother.1 hother.2)
  | trap hi => exact .inr (.inr (.inr hi))
  | _ => exact absurd (by simp_all) hne

/-- Settles O56: every other ending adds an even number to the pc. -/
theorem oddPcComesOnlyFromRegisterAndAbsoluteJumps : Obligations.OddPcComesOnlyFromRegisterAndAbsoluteJumps := by
  intro i s t h heven hodd
  have htwo : isOdd 2#16 = false := rfl
  cases exec_completion h with
  | jump hi => exact hi.imp_right (·.imp_right .inl)
  | trap hi => exact .inr (.inr (.inr hi))
  | wordStore rv rs1 imm16 d len v hi hlow hhigh ht => simp_all [isOdd_add, wordStores_len_even _ hi]
  | _ => simp_all [isOdd_add]

/-- Settles O57: HALT's ending alone writes `halted`; EXX's and a trap's alone write alternates. -/
theorem onlyHaltHaltsAndOnlyExxExchanges : Obligations.OnlyHaltHaltsAndOnlyExxExchanges := by
  intro i s t h
  cases exec_completion h with
  | trap hi e ht => exact ⟨fun _ => by simp [ht], fun _ hreti hswi => absurd hi (by simp [IsTrap, hreti, hswi])⟩
  | _ => simp_all

/-! ### Stops -/

/-- Why a word load stops (20_memory.md R55, R59). -/
theorem loadInto_fault {s : State} {rd : RegNum} {ea len : Word} {f : Fault} (h : s.loadInto rd ea len = .fault f) :
    (f = .misalignedAccess ea ∧ isOdd ea = true) ∨
      (f = .unpopulated ea ∧ (s.kindAt ea = .absent ∨ s.kindAt (ea + 1#16) = .absent)) := by
  unfold State.loadInto at h
  split at h
  next => cases h
  next f' hf => cases h; exact loadWord_error hf

/-- Why a byte load stops. -/
theorem loadByteInto_fault {s : State} {rd : RegNum} {ea : Word} {ext : Byte → Word} {f : Fault}
    (h : s.loadByteInto rd ea ext = .fault f) : f = .unpopulated ea ∧ s.kindAt ea = .absent := by
  unfold State.loadByteInto at h
  split at h
  next => cases h
  next f' hf => cases h; exact loadByte_error hf

/-- Why a word store stops. -/
theorem storeFrom_fault {s : State} {ea v len : Word} {f : Fault} (h : s.storeFrom ea v len = .fault f) :
    (f = .misalignedAccess ea ∧ isOdd ea = true) ∨
      (f = .unpopulated ea ∧ (s.kindAt ea ≠ .ram ∨ s.kindAt (ea + 1#16) ≠ .ram)) := by
  unfold State.storeFrom at h
  split at h
  next => cases h
  next f' hf => cases h; exact storeWord_error hf

/-- Why a byte store stops. -/
theorem storeByteFrom_fault {s : State} {ea : Word} {b : Byte} {f : Fault} (h : s.storeByteFrom ea b = .fault f) :
    f = .unpopulated ea ∧ s.kindAt ea ≠ .ram := by
  unfold State.storeByteFrom at h
  split at h
  next => cases h
  next f' hf => cases h; exact storeByte_error hf

/-- Why PUSH stops. -/
theorem execPush_fault {rs1 : RegNum} {s : State} {f : Fault} (h : execPush rs1 s = .fault f) :
    (f = .misalignedAccess s.pushSlot ∧ isOdd s.pushSlot = true) ∨
      (f = .unpopulated s.pushSlot ∧ (s.kindAt s.pushSlot ≠ .ram ∨ s.kindAt (s.pushSlot + 1#16) ≠ .ram)) := by
  unfold execPush at h
  split at h
  next => cases h
  next f' hf => cases h; exact storeWord_error hf

/-- Why POP stops: into SP always (R251), else as a word load at SP does. -/
theorem execPop_fault {rd : RegNum} {s : State} {f : Fault} (h : execPop rd s = .fault f) :
    (f = .unspecified .popSp ∧ rd = regSP) ∨
    (f = .misalignedAccess (s.readReg regSP) ∧ isOdd (s.readReg regSP) = true) ∨
      (f = .unpopulated (s.readReg regSP) ∧
        (s.kindAt (s.readReg regSP) = .absent ∨ s.kindAt (s.readReg regSP + 1#16) = .absent)) := by
  unfold execPop at h
  split at h
  next hrd => cases h; exact .inl ⟨rfl, hrd⟩
  next =>
    split at h
    next => cases h
    next f' hf => cases h; exact .inr (loadWord_error hf)

/-- The instructions that read a word from memory, with the register and operands they name. -/
def ReadsWord (i : Instr) (r rs1 : RegNum) (imm16 : Word) : Prop :=
  i ∈ [Instr.lw r rs1, .lwP2 r rs1, .lwP4 r rs1, .lwP6 r rs1, .lwM2 r rs1, .lwM4 r rs1, .lwx r rs1 imm16, .pop r]

/-- The instructions that write a word to memory. -/
def WritesWord (i : Instr) (r rs1 : RegNum) (imm16 : Word) : Prop :=
  i ∈ [Instr.sw r rs1, .swP2 r rs1, .swP4 r rs1, .swP6 r rs1, .swM2 r rs1, .swM4 r rs1, .swx r rs1 imm16, .push r]

/-- Why an instruction stops. -/
inductive Stop (i : Instr) (s : State) : Fault → Prop
  | misalignedRead (r rs1 : RegNum) (imm16 a : Word) (hi : ReadsWord i r rs1 imm16) (ha : isOdd a = true) :
      Stop i s (.misalignedAccess a)
  | misalignedWrite (r rs1 : RegNum) (imm16 a : Word) (hi : WritesWord i r rs1 imm16) (ha : isOdd a = true) :
      Stop i s (.misalignedAccess a)
  | unpopulatedRead (r rs1 : RegNum) (imm16 a : Word) (hi : ReadsWord i r rs1 imm16)
      (ha : s.kindAt a = .absent ∨ s.kindAt (a + 1#16) = .absent) : Stop i s (.unpopulated a)
  | unpopulatedByteRead (r rs1 : RegNum) (a : Word) (hi : i ∈ [Instr.lb r rs1, .lbu r rs1])
      (ha : s.kindAt a = .absent) : Stop i s (.unpopulated a)
  | unpopulatedWrite (r rs1 : RegNum) (imm16 a : Word) (hi : WritesWord i r rs1 imm16)
      (ha : s.kindAt a ≠ .ram ∨ s.kindAt (a + 1#16) ≠ .ram) : Stop i s (.unpopulated a)
  | unpopulatedByteWrite (r rs1 : RegNum) (a : Word) (hi : i = .sb r rs1) (ha : s.kindAt a ≠ .ram) :
      Stop i s (.unpopulated a)
  | noOperation (x : UnspecifiedOp) (hi : HasNoOperation i x) : Stop i s (.unspecified x)
  | popSp (hi : i = .pop regSP) : Stop i s (.unspecified .popSp)

/-- Every stop of a meaning is one of these. -/
theorem exec_stop {i : Instr} {s : State} {f : Fault} (hfault : exec i s = .fault f) : Stop i s f := by
  cases exec_ending i s with
  | wordLoad rd rs1 imm16 d len hi =>
    have hreads : ReadsWord i rd rs1 imm16 := List.mem_append_left [_] (List.mem_map_of_mem (f := Prod.fst) hi)
    obtain ⟨rfl, ha⟩ | ⟨rfl, ha⟩ := loadInto_fault ((exec_wordLoad rd rs1 imm16 s _ hi).symm.trans hfault)
    · exact .misalignedRead rd rs1 imm16 _ hreads ha
    · exact .unpopulatedRead rd rs1 imm16 _ hreads ha
  | byteLoad rd rs1 ext hi h =>
    obtain ⟨rfl, ha⟩ := loadByteInto_fault (h.symm.trans hfault)
    exact .unpopulatedByteRead rd rs1 _ hi ha
  | wordStore rv rs1 imm16 d len hi =>
    have hwrites : WritesWord i rv rs1 imm16 := List.mem_append_left [_] (List.mem_map_of_mem (f := Prod.fst) hi)
    obtain ⟨rfl, ha⟩ | ⟨rfl, ha⟩ := storeFrom_fault ((exec_wordStore rv rs1 imm16 s _ hi).symm.trans hfault)
    · exact .misalignedWrite rv rs1 imm16 _ hwrites ha
    · exact .unpopulatedWrite rv rs1 imm16 _ hwrites ha
  | byteStore rv rs1 hi =>
    subst hi
    obtain ⟨rfl, ha⟩ := storeByteFrom_fault ((exec_sb rv rs1 s).symm.trans hfault)
    exact .unpopulatedByteWrite rv rs1 _ rfl ha
  | push rs1 hi =>
    subst hi
    have hwrites : WritesWord (.push rs1) rs1 0#4 0#16 := by simp [WritesWord]
    obtain ⟨rfl, ha⟩ | ⟨rfl, ha⟩ := execPush_fault hfault
    · exact .misalignedWrite rs1 0#4 0#16 _ hwrites ha
    · exact .unpopulatedWrite rs1 0#4 0#16 _ hwrites ha
  | pop rd hi =>
    subst hi
    have hreads : ReadsWord (.pop rd) rd 0#4 0#16 := by simp [ReadsWord]
    obtain ⟨rfl, rfl⟩ | ⟨rfl, ha⟩ | ⟨rfl, ha⟩ := execPop_fault hfault
    · exact .popSp rfl
    · exact .misalignedRead rd 0#4 0#16 _ hreads ha
    · exact .unpopulatedRead rd 0#4 0#16 _ hreads ha
  | noOperation x hi h =>
    cases h.symm.trans hfault
    exact .noOperation x hi
  | exx hi | getf rd hi | setf rs1 hi | nop hi | halt hi => subst hi; cases hfault
  | register _ _ _ h | flagsAndRegister _ _ _ h | flags _ _ _ h | relativeJump _ h | jump _ _ _ _ h | portRead _ _ _ _ h
  | portWrite _ _ _ _ h | setIe _ h | setI _ h | trap _ _ h => cases h.symm.trans hfault

section
variable (s : State) (r : Refusal)

theorem loadInto_ne_refused (rd : RegNum) (ea len : Word) : s.loadInto rd ea len ≠ .refused r := by
  unfold State.loadInto
  split <;> nofun

theorem loadByteInto_ne_refused (rd : RegNum) (ea : Word) (ext : Byte → Word) :
    s.loadByteInto rd ea ext ≠ .refused r := by
  unfold State.loadByteInto
  split <;> nofun

theorem storeFrom_ne_refused (ea v len : Word) : s.storeFrom ea v len ≠ .refused r := by
  unfold State.storeFrom
  split <;> nofun

theorem storeByteFrom_ne_refused (ea : Word) (b : Byte) : s.storeByteFrom ea b ≠ .refused r := by
  unfold State.storeByteFrom
  split <;> nofun

theorem execPush_ne_refused (rs1 : RegNum) : execPush rs1 s ≠ .refused r := by
  unfold execPush
  split <;> nofun

theorem execPop_ne_refused (rd : RegNum) : execPop rd s ≠ .refused r := by
  unfold execPop
  split
  · nofun
  · split <;> nofun

end

/-- No ending refuses. -/
theorem exec_ne_refused (i : Instr) (s : State) (r : Refusal) : exec i s ≠ .refused r := by
  intro hrefused
  cases exec_ending i s with
  | wordLoad rd rs1 imm16 d len hi =>
    exact loadInto_ne_refused _ _ _ _ _ ((exec_wordLoad rd rs1 imm16 s _ hi).symm.trans hrefused)
  | byteLoad rd rs1 ext hi h => exact loadByteInto_ne_refused _ _ _ _ _ (h.symm.trans hrefused)
  | wordStore rv rs1 imm16 d len hi =>
    exact storeFrom_ne_refused _ _ _ _ _ ((exec_wordStore rv rs1 imm16 s _ hi).symm.trans hrefused)
  | byteStore rv rs1 hi =>
    subst hi
    exact storeByteFrom_ne_refused _ _ _ _ ((exec_sb rv rs1 s).symm.trans hrefused)
  | push rs1 hi => subst hi; exact execPush_ne_refused _ _ _ hrefused
  | pop rd hi => subst hi; exact execPop_ne_refused _ _ _ hrefused
  | exx hi | getf rd hi | setf rs1 hi | nop hi | halt hi => subst hi; cases hrefused
  | register _ _ _ h | flagsAndRegister _ _ _ h | flags _ _ _ h | relativeJump _ h | jump _ _ _ _ h | portRead _ _ _ _ h
  | portWrite _ _ _ _ h | setIe _ h | setI _ h | trap _ _ h | noOperation _ _ h => cases h.symm.trans hrefused

/-- A word read's instruction is among the word accesses. -/
theorem ReadsWord.mem_wordAccesses {i : Instr} {r rs1 : RegNum} {imm16 : Word} (h : ReadsWord i r rs1 imm16) :
    i ∈ [Instr.lw r rs1, .lwP2 r rs1, .lwP4 r rs1, .lwP6 r rs1, .lwM2 r rs1, .lwM4 r rs1, .sw r rs1, .swP2 r rs1,
      .swP4 r rs1, .swP6 r rs1, .swM2 r rs1, .swM4 r rs1, .lwx r rs1 imm16, .swx r rs1 imm16, .push r, .pop r] :=
  List.subset_def.1 (by simp) h

/-- And so is a word write's. -/
theorem WritesWord.mem_wordAccesses {i : Instr} {r rs1 : RegNum} {imm16 : Word} (h : WritesWord i r rs1 imm16) :
    i ∈ [Instr.lw r rs1, .lwP2 r rs1, .lwP4 r rs1, .lwP6 r rs1, .lwM2 r rs1, .lwM4 r rs1, .sw r rs1, .swP2 r rs1,
      .swP4 r rs1, .swP6 r rs1, .swM2 r rs1, .swM4 r rs1, .lwx r rs1 imm16, .swx r rs1 imm16, .push r, .pop r] :=
  List.subset_def.1 (by simp) h

/-- Settles O58: every stop of a meaning is one of `Stop`'s. -/
theorem stopsAreThoseOfTheTable : Obligations.StopsAreThoseOfTheTable := by
  intro i s
  refine ⟨exec_ne_refused i s, fun _ h => (by cases exec_stop h), fun _ h => (by cases exec_stop h), fun a h => ?_,
    fun a h => ?_, fun x h => ?_⟩
  · cases exec_stop h with
    | misalignedRead r rs1 imm16 _ hi ha => exact ⟨ha, r, rs1, imm16, hi.mem_wordAccesses⟩
    | misalignedWrite r rs1 imm16 _ hi ha => exact ⟨ha, r, rs1, imm16, hi.mem_wordAccesses⟩
  · cases exec_stop h with
    | unpopulatedRead r rs1 imm16 _ hi ha => exact ⟨r, rs1, imm16, .inl ⟨hi, ha⟩⟩
    | unpopulatedByteRead r rs1 _ hi ha => exact ⟨r, rs1, 0#16, .inr (.inl ⟨hi, ha⟩)⟩
    | unpopulatedWrite r rs1 imm16 _ hi ha => exact ⟨r, rs1, imm16, .inr (.inr (.inl ⟨hi, ha⟩))⟩
    | unpopulatedByteWrite r rs1 _ hi ha => exact ⟨r, rs1, 0#16, .inr (.inr (.inr ⟨hi, ha⟩))⟩
  · cases exec_stop h with
    | noOperation _ hi => exact hi.imp_right .inr
    | popSp hi => exact .inr (.inl ⟨rfl, hi⟩)

end Sys2Proof.Machine
end

section
/-! PROOF. The step (10_state.md R36; 20_memory.md R57; 60_exceptions.md R342): what the fetch answers, and what a step
makes of it. -/

namespace Sys2Proof.Machine

/-! ### The fetch -/

section
variable {s : State}

/-- The first word is all a short instruction needs (20_memory.md R57). -/
theorem fetch_short (hpc : isOdd s.pc = false) (hfirst : (s.readable s.pc && s.readable (s.pc + 1#16)) = true)
    (hext : isExtended (s.wordAt s.pc) = false) : s.fetch = .ok (s.wordAt s.pc, 0#16) := by
  simp [State.fetch, hpc, hfirst, hext]

/-- Opcode 0xF needs the second word too. -/
theorem fetch_extended (hpc : isOdd s.pc = false) (hfirst : (s.readable s.pc && s.readable (s.pc + 1#16)) = true)
    (hext : isExtended (s.wordAt s.pc) = true)
    (hsecond : (s.readable (s.pc + 2#16) && s.readable (s.pc + 3#16)) = true) :
    s.fetch = .ok (s.wordAt s.pc, s.wordAt (s.pc + 2#16)) := by
  simp [State.fetch, hpc, hfirst, hext, hsecond]

theorem fetch_odd (hpc : isOdd s.pc = true) : s.fetch = .error (.misalignedFetch s.pc) := by
  simp [State.fetch, hpc]

theorem fetch_first_unpopulated (hpc : isOdd s.pc = false)
    (hfirst : (s.readable s.pc && s.readable (s.pc + 1#16)) = false) : s.fetch = .error (.unpopulated s.pc) := by
  simp [State.fetch, hpc, hfirst]

theorem fetch_second_unpopulated (hpc : isOdd s.pc = false)
    (hfirst : (s.readable s.pc && s.readable (s.pc + 1#16)) = true) (hext : isExtended (s.wordAt s.pc) = true)
    (hsecond : (s.readable (s.pc + 2#16) && s.readable (s.pc + 3#16)) = false) :
    s.fetch = .error (.unpopulated (s.pc + 2#16)) := by
  simp [State.fetch, hpc, hfirst, hext, hsecond]

/-! ### The step -/

/-- A stop of the fetch is the step's. -/
theorem step_of_fetch_error {f : Fault} (hrun : s.halted = false) (h : s.fetch = .error f) : step s = .fault f := by
  simp [step, hrun, h]

/-- A word that decodes to nothing stops the step (30_encoding.md R105). -/
theorem step_of_reserved {w0 w1 : Word} (hrun : s.halted = false) (hfetch : s.fetch = .ok (w0, w1))
    (hdecode : decodeWords w0 w1 = none) : step s = .fault (.illegalInstruction w0) := by
  simp [step, hrun, hfetch, hdecode]

end

/-- No word of opcode 0xF is reserved (30_encoding.md R104). -/
theorem isExtended_eq_false_of_reserved {w0 w1 : Word} (h : decodeWords w0 w1 = none) : isExtended w0 = false := by
  by_contra hext
  rw [Bool.not_eq_false] at hext
  rw [decodeWords_extended w1 (beq_iff_eq.1 hext)] at h
  exact decodeExtended_ne_none _ _ _ _ h

/-- Settles O9: each stop of the fetch is the step's, and a reserved word is fetched without a second one. -/
theorem fetchStopsInOrder : Obligations.FetchStopsInOrder := by
  intro s hrun
  refine ⟨fun hpc => step_of_fetch_error hrun (fetch_odd hpc),
    fun hpc hfirst => step_of_fetch_error hrun (fetch_first_unpopulated hpc hfirst),
    fun hpc hfirst hop hsecond =>
      step_of_fetch_error hrun (fetch_second_unpopulated hpc hfirst ((isExtended_iff _).2 hop) hsecond),
    fun hpc hfirst hdecode => ?_⟩
  exact step_of_reserved hrun (fetch_short hpc hfirst (isExtended_eq_false_of_reserved hdecode)) hdecode

/-- What four bytes decode to, by the first word's opcode (30_encoding.md R107). -/
theorem decode_four_bytes {b0 b1 b2 b3 : Byte} {i : Instr} {rest : List Byte}
    (h : decode [b0, b1, b2, b3] = .ok (i, rest)) :
    (isExtended (Word.ofBytes b1 b0) = true ∧ decodeWords (Word.ofBytes b1 b0) (Word.ofBytes b3 b2) = some i) ∨
      (isExtended (Word.ofBytes b1 b0) = false ∧ decodeWords (Word.ofBytes b1 b0) 0#16 = some i) := by
  simp only [decode] at h
  cases hext : isExtended (Word.ofBytes b1 b0) with
  | true =>
    rw [if_pos hext] at h
    split at h
    next j hj => cases h; exact .inl ⟨rfl, hj⟩
    next => cases h
  | false =>
    rw [if_neg (by simp [hext])] at h
    split at h
    next j hj => cases h; exact .inr ⟨rfl, hj⟩
    next => cases h

/-- What a word of opcode 0xF decodes to is four bytes long (R80). -/
theorem lengthBytes_of_isExtended {w0 w1 : Word} {i : Instr} (hext : isExtended w0 = true)
    (h : decodeWords w0 w1 = some i) : i.lengthBytes = 4 := by
  obtain ⟨-, hlen⟩ := decodedInstructionIsWellFormed w0 w1 i h
  rw [hlen, if_pos ((isExtended_iff w0).1 hext)]

/-- Every instruction is two bytes long or more. -/
theorem two_le_lengthBytes (i : Instr) : 2 ≤ i.lengthBytes := by
  unfold Instr.lengthBytes
  split <;> decide

/-- Settles O8: the fetch gives the words the bytes are, and the step runs what they decode to. -/
theorem stepRunsTheDecodedInstruction : Obligations.StepRunsTheDecodedInstruction := by
  intro s i rest hrun hpc hbytes hdecode _
  have hlen := two_le_lengthBytes i
  have hbyte0 : s.readable s.pc = true := by simpa using hbytes 0 (by omega)
  have hbyte1 : s.readable (s.pc + 1#16) = true := hbytes 1 (by omega)
  have hfirst : (s.readable s.pc && s.readable (s.pc + 1#16)) = true := by rw [hbyte0, hbyte1]; rfl
  obtain ⟨hext, hwords⟩ | ⟨hext, hwords⟩ := decode_four_bytes hdecode
  · have hlen4 := lengthBytes_of_isExtended hext hwords
    have hbyte2 : s.readable (s.pc + 2#16) = true := hbytes 2 (by omega)
    have hbyte3 : s.readable (s.pc + 3#16) = true := hbytes 3 (by omega)
    have hsecond : (s.readable (s.pc + 2#16) && s.readable (s.pc + 3#16)) = true := by rw [hbyte2, hbyte3]; rfl
    have haddr : s.pc + 2#16 + 1#16 = s.pc + 3#16 := BitVec.add_assoc ..
    refine step_eq_exec hrun (fetch_extended hpc hfirst hext hsecond) ?_
    rwa [State.wordAt, State.wordAt, haddr]
  · exact step_eq_exec hrun (fetch_short hpc hfirst hext) hwords

/-- A halted core's step answers its own state (10_state.md R29, log 17). -/
theorem step_halted {s : State} (h : s.halted = true) : step s = .next s := if_pos h

/-- Settles O10, as `step_halted`. -/
theorem haltedCoreStays : Obligations.HaltedCoreStays := fun _ => step_halted

/-- A halted core stays for any number of steps. -/
theorem run_halted {s : State} (h : s.halted = true) (n : Nat) : Host.Core.run core n s = .next s := by
  induction n with
  | zero => rfl
  | succ n ih =>
    have hstep : core.step s = .next s := step_halted h
    exact (Host.Core.run.eq_2 core s n).trans (by rw [hstep]; exact ih)

/-- Settles O46: HALT's state is halted, and a halted core stays. -/
theorem haltIsFinal : Obligations.HaltIsFinal := fun _ => ⟨_, rfl, rfl, run_halted rfl⟩

end Sys2Proof.Machine
end

section
/-! PROOF. What each ending completes with: its value, its flags, its pc, and its frame, which is put together from the
frames of the state's operations. -/

namespace Sys2Proof.Machine

/-! ### Frames -/

/-- A frame is for one state after another. -/
theorem Frame.trans {s t u : State} {regs regs' : List RegNum} {bytes bytes' : List Word}
    {ports ports' : List PortEvent} (h : Frame s t regs bytes ports) (h' : Frame t u regs' bytes' ports') :
    Frame s u (regs ++ regs') (bytes ++ bytes') (ports' ++ ports) := by
  constructor
  case regs =>
    intro r hr
    rw [List.mem_append, not_or] at hr
    rw [h'.regs r hr.2, h.regs r hr.1]
  case bytes =>
    intro a ha
    rw [List.mem_append, not_or] at ha
    rw [h'.bytes a ha.2, h.bytes a ha.1]
  case alts => exact fun r => (h'.alts r).trans (h.alts r)
  case ports => rw [h'.ports, h.ports, List.append_assoc]
  case ie => exact h'.ie.trans h.ie
  case i => exact h'.i.trans h.i
  case halted => exact h'.halted.trans h.halted
  case memMap => exact h'.memMap.trans h.memMap
  case freeCount => exact h'.freeCount.trans h.freeCount

theorem frame_advance (s : State) (len : Word) : Frame s (s.advance len) [] [] [] := by
  constructor <;> simp

theorem frame_setFlags (s : State) (f : Flags) : Frame s (s.setFlags f) [] [] [] := by
  constructor <;> simp

theorem frame_setCarry (s : State) (c : Bool) : Frame s (s.setCarry c) [] [] [] := by
  constructor <;> simp

theorem frame_recordPort (s : State) (e : PortEvent) : Frame s (s.recordPort e) [] [] [e] := by
  constructor <;> simp

theorem frame_writeReg (s : State) (r : RegNum) (v : Word) : Frame s (s.writeReg r v) [r] [] [] := by
  constructor
  case regs => exact fun q hq => readReg_writeReg_other s v (List.ne_of_not_mem_cons hq)
  all_goals simp

theorem frame_setByte (s : State) (a : Word) (b : Byte) : Frame s (s.setByte a b) [] [a] [] := by
  constructor
  case bytes => exact fun x hx => byteAt_setByte_other b (List.ne_of_not_mem_cons hx)
  all_goals simp

theorem frame_setWord (s : State) (a v : Word) : Frame s (s.setWord a v) [] [a, a + 1#16] [] :=
  (frame_setByte s a _).trans (frame_setByte _ (a + 1#16) _)

/-! ### Completions -/

/-- What holds of the state an instruction completes in may be said more weakly. -/
theorem Completes.mono {i : Instr} {s : State} {P Q : State → Prop} (h : Completes i s P) (hPQ : ∀ t, P t → Q t) :
    Completes i s Q := by
  obtain ⟨t, ht, hP⟩ := h
  exact ⟨t, ht, hPQ t hP⟩

section
variable {i : Instr} {s : State} {rd : RegNum} {len : Word}

/-- A result with its flags (40_alu.md R123). -/
theorem completes_of_finishFlags {r : Word × Flags} (h : exec i s = s.finishFlags rd r len) :
    Completes i s fun t =>
      t.readReg rd = (if rd = 0#4 then 0#16 else r.1) ∧ t.flags = r.2 ∧ t.pc = s.pc + len ∧ Frame s t [rd] [] [] :=
  ⟨_, h, readReg_writeReg_same _ rd r.1, rfl, rfl, (frame_setFlags s r.2).trans (frame_writeReg_advance _ rd r.1 len)⟩

/-- The flags alone (45_stack_misc.md R252). -/
theorem completes_of_setFlags {f : Flags} (h : exec i s = .next ((s.setFlags f).advance len)) :
    Completes i s fun t => t.flags = f ∧ t.pc = s.pc + len ∧ Frame s t [] [] [] :=
  ⟨_, h, rfl, rfl, (frame_setFlags s f).trans (frame_advance _ len)⟩

/-- `completes_of_finish`, its value as a number. -/
theorem completes_of_finish_toNat {v : Word} {n : Nat} (h : exec i s = s.finish rd v len) (hv : v.toNat = n) :
    Completes i s fun t =>
      (t.readReg rd).toNat = (if rd = 0#4 then 0 else n) ∧ t.flags = s.flags ∧ t.pc = s.pc + len ∧
        Frame s t [rd] [] [] := by
  refine (completes_of_finish h).mono fun t ⟨hrd, hrest⟩ => ⟨?_, hrest⟩
  rw [hrd, apply_ite BitVec.toNat, hv]
  rfl

/-- A jump (42_branch_jump.md R188). -/
theorem completes_of_jumpTo {a : Word} (h : exec i s = .next (s.jumpTo a)) :
    Completes i s fun t => t.pc = a ∧ t.flags = s.flags ∧ Frame s t [] [] [] :=
  ⟨_, h, rfl, rfl, frame_jumpTo s a⟩

/-- A jump with its link (42_branch_jump.md R190). -/
theorem completes_of_link {link a : Word} (h : exec i s = .next ((s.writeReg rd link).jumpTo a)) :
    Completes i s fun t =>
      t.pc = a ∧ t.readReg rd = (if rd = 0#4 then 0#16 else link) ∧ t.flags = s.flags ∧ Frame s t [rd] [] [] :=
  ⟨_, h, rfl, readReg_writeReg_same s rd link, rfl, (frame_writeReg s rd link).trans (frame_jumpTo _ a)⟩

end

end Sys2Proof.Machine
end

section
/-! PROOF. Opcodes 0x0 to 0x5 and the comparisons (40_alu.md; 45_stack_misc.md R252 to R254; 48_extended.md R311 to
R315, R318, R321): the model's flag formulas are the spec's facts over exact integers. -/

namespace Sys2Proof.Machine

/-! ### Flags over exact integers -/

/-- Bit 15 is the sign. -/
theorem msb_iff_toInt_neg (r : Word) : r.msb = true ↔ r.toInt < 0 := by
  rw [BitVec.msb_eq_toInt, decide_eq_true_iff]

/-- N and Z from bit 15 and a comparison with 0 (40_alu.md R122). -/
theorem resultFlags_of {f : Flags} {r : Word} (hn : f.n = r.msb) (hz : f.z = (r == 0#16)) : ResultFlags f r := by
  refine ⟨hn ▸ msb_iff_toInt_neg r, ?_⟩
  rw [hz, beq_iff_eq, ← BitVec.toNat_inj]
  rfl

/-- The signed sum fits exactly when the signs do not say otherwise (R120). -/
theorem addition_overflow_iff (a b : Word) :
    (a.msb == b.msb && (a + b).msb != a.msb) = true ↔ (a + b).toInt ≠ a.toInt + b.toInt := by
  have ha := a.isLt
  have hb := b.isLt
  simp only [BitVec.msb_eq_decide, BitVec.toInt_eq_toNat_cond, BitVec.toNat_add, Bool.and_eq_true, beq_iff_eq,
    bne_iff_ne, decide_eq_decide, ne_eq]
  split_ifs <;> omega

/-- The signed difference fits exactly when the signs do not say otherwise (R121). -/
theorem subtraction_overflow_iff (a b : Word) :
    (a.msb != b.msb && (a - b).msb != a.msb) = true ↔ (a - b).toInt ≠ a.toInt - b.toInt := by
  have ha := a.isLt
  have hb := b.isLt
  simp only [BitVec.msb_eq_decide, BitVec.toInt_eq_toNat_cond, BitVec.toNat_sub, Bool.and_eq_true, bne_iff_ne,
    decide_eq_decide, ne_eq]
  split_ifs <;> omega

/-- `AddFlags` (R120). -/
theorem additionFlags_addFlags (a b : Word) : AdditionFlags (addFlags a b).2 a b :=
  ⟨resultFlags_of rfl rfl, decide_eq_true_iff, addition_overflow_iff a b⟩

/-- `SubFlags` (R121). -/
theorem subtractionFlags_subFlags (a b : Word) : SubtractionFlags (subFlags a b).2 a b :=
  ⟨resultFlags_of rfl rfl, decide_eq_true_iff, subtraction_overflow_iff a b⟩

/-! ### Additions, subtractions and comparisons -/

/-- An addition into `rd`. -/
theorem completes_of_addFlags {i : Instr} {s : State} {rd : RegNum} {a b : Word}
    (h : exec i s = s.finishFlags rd (addFlags a b) 2#16) :
    Completes i s fun t =>
      t.readReg rd = (if rd = 0#4 then 0#16 else a + b) ∧ AdditionFlags t.flags a b ∧ t.pc = s.pc + 2#16 ∧
        Frame s t [rd] [] [] :=
  (completes_of_finishFlags h).mono fun _ ⟨hrd, hflags, hrest⟩ => ⟨hrd, hflags ▸ additionFlags_addFlags a b, hrest⟩

/-- Settles O11: ADD and ADDI are the same addition of different operands. -/
theorem additionWritesSumAndFlags : Obligations.AdditionWritesSumAndFlags := by
  intro rd rs1 rs2 imm8 s
  simp only [List.forall_mem_cons]
  exact ⟨completes_of_addFlags rfl, completes_of_addFlags rfl, List.forall_mem_nil _⟩

/-- A comparison: a subtraction's flags and no result (R252, R321). -/
theorem completes_of_compare {i : Instr} {s : State} {a b len : Word}
    (h : exec i s = .next ((s.setFlags (subFlags a b).2).advance len)) :
    Completes i s fun t => SubtractionFlags t.flags a b ∧ t.pc = s.pc + len ∧ Frame s t [] [] [] :=
  (completes_of_setFlags h).mono fun _ ⟨hflags, hrest⟩ => ⟨hflags ▸ subtractionFlags_subFlags a b, hrest⟩

/-- Settles O12: SUB with its result, CMP and CMPIX without one. -/
theorem subtractionAndCompareWriteFlags : Obligations.SubtractionAndCompareWriteFlags := by
  intro rd rs1 rs2 imm16 s
  refine ⟨?_, completes_of_compare rfl, completes_of_compare rfl⟩
  exact (completes_of_finishFlags (r := subFlags (s.readReg rs1) (s.readReg rs2)) rfl).mono
    fun _ ⟨hrd, hflags, hrest⟩ => ⟨hrd, hflags ▸ subtractionFlags_subFlags _ _, hrest⟩

/-! ### Logic -/

/-- A logic result into `rd` with flags of its own for C and V: `f` is `andFlags r` or `logicFlags s.flags r`. -/
theorem completes_of_logic {i : Instr} {s : State} {rd : RegNum} {r : Word} {f : Flags} {op : Bool → Bool → Bool}
    {a b : Word} (h : exec i s = s.finishFlags rd (r, f) 2#16)
    (hbits : ∀ k, r.getLsbD k = op (a.getLsbD k) (b.getLsbD k)) (hresult : ResultFlags f r) :
    Completes i s fun t =>
      ∃ r : Word, (∀ k, r.getLsbD k = op (a.getLsbD k) (b.getLsbD k)) ∧
        t.readReg rd = (if rd = 0#4 then 0#16 else r) ∧ ResultFlags t.flags r ∧ t.flags.c = f.c ∧ t.flags.v = f.v ∧
          t.pc = s.pc + 2#16 ∧ Frame s t [rd] [] [] := by
  refine (completes_of_finishFlags h).mono fun t ⟨hrd, hflags, hpc, hframe⟩ => ⟨r, hbits, hrd, ?_, ?_, ?_, hpc, hframe⟩
  all_goals rw [hflags]
  exact hresult

/-- Settles O13: three results bit by bit, and TEST's flags without one. -/
theorem logicWritesResultAndFlags : Obligations.LogicWritesResultAndFlags := by
  intro rd rs1 rs2 s
  simp only [List.forall_mem_cons]
  refine ⟨⟨completes_of_logic (f := andFlags _) rfl (fun _ => BitVec.getLsbD_and) (resultFlags_of rfl rfl),
    completes_of_logic (f := logicFlags s.flags _) rfl (fun _ => BitVec.getLsbD_or) (resultFlags_of rfl rfl),
    completes_of_logic (f := logicFlags s.flags _) rfl (fun _ => BitVec.getLsbD_xor) (resultFlags_of rfl rfl),
    List.forall_mem_nil _⟩, ?_⟩
  refine (completes_of_setFlags (f := andFlags (s.readReg rd &&& s.readReg rs1)) rfl).mono fun t ⟨hflags, hrest⟩ => ?_
  rw [hflags]
  exact ⟨resultFlags_of rfl rfl, rfl, rfl, hrest⟩

/-! ### Moves and extended arithmetic -/

/-- Settles O14: each value as a number. -/
theorem movesAndImmediateArithmetic : Obligations.MovesAndImmediateArithmetic := by
  intro rd rs1 imm16 s
  simp only [List.forall_mem_cons]
  have hsub : (s.readReg rs1 - imm16).toNat = ((s.readReg rs1).toNat + 65536 - imm16.toNat) % 65536 := by
    have himm := imm16.isLt
    rw [BitVec.toNat_sub]
    congr 1
    omega
  exact ⟨completes_of_finish_toNat rfl rfl, completes_of_finish_toNat rfl rfl,
    completes_of_finish_toNat rfl (BitVec.toNat_add _ _), completes_of_finish_toNat rfl hsub,
    completes_of_finish_toNat rfl (BitVec.toNat_and _ _), completes_of_finish_toNat rfl (BitVec.toNat_or _ _),
    completes_of_finish_toNat rfl (BitVec.toNat_xor _ _), List.forall_mem_nil _⟩

end Sys2Proof.Machine
end

section
/-! PROOF. Branches after a comparison, jumps and calls (42_branch_jump.md R170, R188 to R191; 48_extended.md R319,
R320). -/

namespace Sys2Proof.Machine

/-! ### What the flags of a comparison say -/

section
variable {f : Flags} {a b : Word}

/-- Z after a comparison is equality. -/
theorem SubtractionFlags.z_eq (h : SubtractionFlags f a b) : f.z = decide (a = b) := by
  obtain ⟨⟨-, hz⟩, -⟩ := h
  rw [Bool.eq_iff_iff, hz, decide_eq_true_iff, ← BitVec.toNat_inj, BitVec.toNat_sub]
  have ha := a.isLt
  have hb := b.isLt
  omega

/-- C after a comparison is the unsigned order. -/
theorem SubtractionFlags.c_eq (h : SubtractionFlags f a b) : f.c = decide (b.toNat ≤ a.toNat) := by
  obtain ⟨-, hc, -⟩ := h
  rw [Bool.eq_iff_iff, hc, decide_eq_true_iff]

/-- N and V after a comparison differ exactly for the signed order: where the difference fits, its sign is the order,
and where it does not, its sign is the opposite. -/
theorem SubtractionFlags.n_ne_v_eq (h : SubtractionFlags f a b) : (f.n != f.v) = decide (a.toInt < b.toInt) := by
  obtain ⟨⟨hn, -⟩, -, hv⟩ := h
  have hn' : f.n = decide ((a - b).toInt < 0) := by rw [Bool.eq_iff_iff, hn, decide_eq_true_iff]
  have hv' : f.v = decide ((a - b).toInt ≠ a.toInt - b.toInt) := by rw [Bool.eq_iff_iff, hv, decide_eq_true_iff]
  have ha := a.isLt
  have hb := b.isLt
  rw [Bool.eq_iff_iff, hn', hv']
  simp only [BitVec.toInt_eq_toNat_cond, BitVec.toNat_sub, bne_iff_ne, ne_eq, decide_eq_decide, decide_eq_true_iff]
  split_ifs <;> omega

theorem SubtractionFlags.n_eq_v_eq (h : SubtractionFlags f a b) : (f.n == f.v) = decide (b.toInt ≤ a.toInt) := by
  have hlt := h.n_ne_v_eq
  rw [bne, Bool.not_eq_eq_eq_not, ← decide_not] at hlt
  simpa using hlt

/-- Signed greater: not equal and not less. -/
theorem SubtractionFlags.signed_gt_eq (h : SubtractionFlags f a b) :
    (!f.z && f.n == f.v) = decide (b.toInt < a.toInt) := by
  rw [h.z_eq, h.n_eq_v_eq, Bool.eq_iff_iff]
  simp [← BitVec.toInt_inj]
  omega

/-- Signed less or equal. -/
theorem SubtractionFlags.signed_le_eq (h : SubtractionFlags f a b) :
    (f.z || f.n != f.v) = decide (a.toInt ≤ b.toInt) := by
  rw [h.z_eq, h.n_ne_v_eq, Bool.eq_iff_iff]
  simp [← BitVec.toInt_inj]
  omega

/-- Unsigned greater: no borrow and not equal. -/
theorem SubtractionFlags.unsigned_gt_eq (h : SubtractionFlags f a b) :
    (f.c && !f.z) = decide (b.toNat < a.toNat) := by
  rw [h.z_eq, h.c_eq, Bool.eq_iff_iff]
  simp [← BitVec.toNat_inj]
  omega

/-- Unsigned less or equal. -/
theorem SubtractionFlags.unsigned_le_eq (h : SubtractionFlags f a b) :
    (!f.c || f.z) = decide (a.toNat ≤ b.toNat) := by
  rw [h.z_eq, h.c_eq, Bool.eq_iff_iff]
  simp [← BitVec.toNat_inj]
  omega

end

/-- A branch whose condition is `p` goes where `p` says (R171). -/
theorem completes_of_branchIf {i : Instr} {t : State} {taken p : Bool} {offset8 : Byte}
    (h : exec i t = t.branchIf taken offset8) (hp : taken = p) :
    Completes i t fun u => u.pc = t.pc + 2#16 + (if p then BitVec.ofInt 16 (2 * offset8.toInt) else 0#16) :=
  hp ▸ ⟨_, h.trans (branchIf_eq ..), rfl⟩

/-- Settles O16: each condition of R170, read with what Z, C and N, V say after a comparison. -/
theorem compareThenBranchDecidesTheOrder : Obligations.CompareThenBranchDecidesTheOrder := by
  intro rd rs1 offset8 s
  refine (completes_of_compare rfl).mono fun t ⟨h, _⟩ => ?_
  have hne : (!t.flags.z) = decide (s.readReg rd ≠ s.readReg rs1) := by rw [h.z_eq, decide_not]
  have hbelow : (!t.flags.c) = decide ((s.readReg rd).toNat < (s.readReg rs1).toNat) := by
    rw [h.c_eq, ← decide_not, decide_eq_decide, Nat.not_le]
  simp only [List.forall_mem_cons]
  exact ⟨completes_of_branchIf rfl h.z_eq, completes_of_branchIf rfl hne, completes_of_branchIf rfl h.n_ne_v_eq,
    completes_of_branchIf rfl h.n_eq_v_eq, completes_of_branchIf rfl h.signed_gt_eq,
    completes_of_branchIf rfl h.signed_le_eq, completes_of_branchIf rfl hbelow, completes_of_branchIf rfl h.c_eq,
    completes_of_branchIf rfl h.unsigned_gt_eq, completes_of_branchIf rfl h.unsigned_le_eq, List.forall_mem_nil _⟩

/-! ### Jumps -/

/-- J's displacement by shifting is two bytes for each unit of the offset (30_encoding.md R94). -/
theorem jumpDisp_eq_ofInt (offset12 : BitVec 12) : jumpDisp offset12 = BitVec.ofInt 16 (2 * offset12.toInt) := by
  have hext : offset12.signExtend 16 = BitVec.ofInt 16 offset12.toInt := rfl
  rw [jumpDisp, hext, BitVec.ofInt_mul, BitVec.shiftLeft_eq_mul_twoPow, BitVec.mul_comm]
  rfl

/-- Settles O17: each jump with its target and its link. -/
theorem jumpsSetPcAndLink : Obligations.JumpsSetPcAndLink := by
  intro rd rs offset12 addr16 s
  refine ⟨completes_of_jumpTo ?_, completes_of_jumpTo rfl, completes_of_link rfl, completes_of_jumpTo rfl,
    completes_of_link (rd := regRA) rfl⟩
  rw [← jumpDisp_eq_ofInt]
  rfl

/-- JR goes to the value of its register (R189). -/
theorem completes_jr (rs : RegNum) (s : State) : Completes (.jr rs) s fun u => u.pc = s.readReg rs := ⟨_, rfl, rfl⟩

/-- Settles O18: the link a call leaves is where JR goes. -/
theorem callThenReturnComesBack : Obligations.CallThenReturnComesBack := by
  intro rd rs addr16 s
  obtain ⟨-, -, hjalr, -, hjalx⟩ := jumpsSetPcAndLink rd rs 0#12 addr16 s
  refine ⟨hjalx.mono fun t ⟨_, hlink, _⟩ => ?_, fun hrd => hjalr.mono fun t ⟨_, hlink, _⟩ => ?_⟩
  · exact hlink ▸ completes_jr 1#4 t
  · rw [if_neg hrd] at hlink
    exact hlink ▸ completes_jr rd t

end Sys2Proof.Machine
end

section
/-! PROOF. Loads and stores (41_load_store.md; 48_extended.md R316, R317; 20_memory.md R50 to R61): what each shared
access completes with, when it stops, and that what is stored is what is loaded. -/

namespace Sys2Proof.Machine

/-! ### Bytes and words as numbers -/

/-- Bits 7:0. -/
theorem lowByte_toNat (w : Word) : w.lowByte.toNat = w.toNat % 256 := by
  rw [Word.lowByte, BitVec.extractLsb'_toNat]
  rfl

/-- Bits 15:8. -/
theorem highByte_toNat (w : Word) : w.highByte.toNat = w.toNat / 256 := by
  have hw := w.isLt
  rw [Word.highByte, BitVec.extractLsb'_toNat, Nat.shiftRight_eq_div_pow]
  omega

/-- Low byte first (20_memory.md R50). -/
theorem ofBytes_toNat (hi lo : Byte) : (Word.ofBytes hi lo).toNat = lo.toNat + 256 * hi.toNat := by
  have hlow := lowByte_toNat (Word.ofBytes hi lo)
  have hhigh := highByte_toNat (Word.ofBytes hi lo)
  rw [lowByte_ofBytes] at hlow
  rw [highByte_ofBytes] at hhigh
  omega

/-! ### Accesses that complete -/

section
variable {i : Instr} {s : State} {ea len : Word}

/-- A word load that meets no stop writes the word. -/
theorem loadInto_ok (rd : RegNum) (len : Word) (heven : isOdd ea = false) (hlow : s.readable ea = true)
    (hhigh : s.readable (ea + 1#16) = true) : s.loadInto rd ea len = s.finish rd (s.wordAt ea) len := by
  rw [State.loadInto, loadWord_ok s heven hlow hhigh]

/-- A byte load. -/
theorem loadByteInto_ok (rd : RegNum) (ext : Byte → Word) (h : s.readable ea = true) :
    s.loadByteInto rd ea ext = s.finish rd (ext (s.byteAt ea)) 2#16 := by
  rw [State.loadByteInto, loadByte_ok s h]

/-- A word store. -/
theorem storeFrom_ok (v len : Word) (heven : isOdd ea = false) (hlow : s.writable ea = true)
    (hhigh : s.writable (ea + 1#16) = true) : s.storeFrom ea v len = .next ((s.setWord ea v).advance len) := by
  rw [State.storeFrom, storeWord_ok s v heven hlow hhigh]

/-- A byte store. -/
theorem storeByteFrom_ok (b : Byte) (h : s.writable ea = true) :
    s.storeByteFrom ea b = .next ((s.setByte ea b).advance 2#16) := by
  rw [State.storeByteFrom, storeByte_ok s b h]

/-- A word load completes with both bytes in its register. -/
theorem completes_of_loadInto {rd : RegNum} (h : exec i s = s.loadInto rd ea len) (heven : isOdd ea = false)
    (hlow : s.readable ea = true) (hhigh : s.readable (ea + 1#16) = true) :
    Completes i s fun t =>
      (t.readReg rd).toNat = (if rd = 0#4 then 0 else (s.byteAt ea).toNat + 256 * (s.byteAt (ea + 1#16)).toNat) ∧
        t.flags = s.flags ∧ t.pc = s.pc + len ∧ Frame s t [rd] [] [] :=
  completes_of_finish_toNat (h.trans (loadInto_ok rd len heven hlow hhigh)) (ofBytes_toNat _ _)

/-- A word store completes with its value in two bytes. -/
theorem completes_of_storeFrom {v : Word} (hwf : s.mem.wf = true) (h : exec i s = s.storeFrom ea v len)
    (heven : isOdd ea = false) (hlow : s.writable ea = true) (hhigh : s.writable (ea + 1#16) = true) :
    Completes i s fun t =>
      (t.byteAt ea).toNat = v.toNat % 256 ∧ (t.byteAt (ea + 1#16)).toNat = v.toNat / 256 ∧ t.flags = s.flags ∧
        t.pc = s.pc + len ∧ Frame s t [] [ea, ea + 1#16] [] := by
  refine ⟨_, h.trans (storeFrom_ok v len heven hlow hhigh), ?_, ?_, rfl, rfl,
    (frame_setWord s ea v).trans (frame_advance _ len)⟩
  · rw [State.advance_byteAt, byteAt_setWord_low ea v hwf, lowByte_toNat]
  · rw [State.advance_byteAt, byteAt_setWord_high ea v hwf, highByte_toNat]

/-- A byte store completes with its value in one byte. -/
theorem completes_of_storeByteFrom {b : Byte} (hwf : s.mem.wf = true) (h : exec i s = s.storeByteFrom ea b)
    (hbyte : s.writable ea = true) :
    Completes i s fun t => t.byteAt ea = b ∧ t.flags = s.flags ∧ t.pc = s.pc + 2#16 ∧ Frame s t [] [ea] [] :=
  ⟨_, h.trans (storeByteFrom_ok b hbyte), byteAt_setByte_same ea b hwf, rfl, rfl,
    (frame_setByte s ea b).trans (frame_advance _ 2#16)⟩

end

/-- Settles O19: each word load is `State.loadInto` at its displacement. -/
theorem wordLoadsReadLittleEndian : Obligations.WordLoadsReadLittleEndian :=
  fun rd rs1 imm16 s p hp => completes_of_loadInto (exec_wordLoad rd rs1 imm16 s p hp)

/-- Settles O20: the two extensions of the same byte, as numbers. -/
theorem byteLoadsExtend : Obligations.ByteLoadsExtend := by
  intro rd rs1 s hbyte
  constructor
  · have hexec := (exec_lb rd rs1 s).trans (loadByteInto_ok rd _ hbyte)
    refine (completes_of_finish hexec).mono fun t ⟨hrd, hrest⟩ => ⟨?_, hrest⟩
    rw [hrd, apply_ite BitVec.toInt, BitVec.toInt_signExtend_of_le (by decide)]
    rfl
  · refine completes_of_finish_toNat ((exec_lbu rd rs1 s).trans (loadByteInto_ok rd _ hbyte)) ?_
    exact BitVec.toNat_setWidth_of_le (by decide)

/-- Settles O21: each word store is `State.storeFrom` at its displacement. -/
theorem wordStoresWriteTwoBytes : Obligations.WordStoresWriteTwoBytes :=
  fun rv rs1 imm16 s hwf p hp => completes_of_storeFrom hwf (exec_wordStore rv rs1 imm16 s p hp)

/-- Settles O22: SB is `State.storeByteFrom` at its base. -/
theorem byteStoreWritesOneByte : Obligations.ByteStoreWritesOneByte := fun rv rs1 s hwf hbyte =>
  (completes_of_storeByteFrom hwf (exec_sb rv rs1 s) hbyte).mono
    fun _ ⟨hvalue, hrest⟩ => ⟨hvalue ▸ lowByte_toNat (s.readReg rv), hrest⟩

/-! ### A load after a store -/

/-- LW with no displacement reads at its base (R142). -/
theorem exec_lw (rd rs1 : RegNum) (s : State) : exec (.lw rd rs1) s = s.loadInto rd (s.readReg rs1) 2#16 :=
  congrArg (s.loadInto rd · 2#16) (ea_zero s rs1)

/-- SW with no displacement writes at its base (R152). -/
theorem exec_sw (rv rs1 : RegNum) (s : State) :
    exec (.sw rv rs1) s = s.storeFrom (s.readReg rs1) (s.readReg rv) 2#16 :=
  congrArg (s.storeFrom · (s.readReg rv) 2#16) (ea_zero s rs1)

/-- What can be written is the map's to say. -/
theorem writable_of_memMap_eq {s t : State} {a : Word} (hmap : t.memMap = s.memMap) (h : s.writable a = true) :
    t.writable a = true := by
  rw [State.writable, State.kindAt, hmap]
  exact h

/-- RAM can be read (20_memory.md R59). -/
theorem readable_of_writable {s : State} {a : Word} (h : s.writable a = true) : s.readable a = true := by
  rw [State.writable, beq_iff_eq] at h
  rw [State.readable, h]
  rfl

/-- LBU at a byte that can be read. -/
theorem completes_lbu (rd rs1 : RegNum) {s : State} (hrd : rd ≠ 0#4) (h : s.readable (s.readReg rs1) = true) :
    Completes (.lbu rd rs1) s fun u => (u.readReg rd).toNat = (s.byteAt (s.readReg rs1)).toNat :=
  ((byteLoadsExtend rd rs1 s h).2).mono fun _ ⟨hvalue, _⟩ => hvalue.trans (if_neg hrd)

/-- LW at two bytes that can be read. -/
theorem completes_lw (rd rs1 : RegNum) {s : State} (hrd : rd ≠ 0#4) (heven : isOdd (s.readReg rs1) = false)
    (hlow : s.readable (s.readReg rs1) = true) (hhigh : s.readable (s.readReg rs1 + 1#16) = true) :
    Completes (.lw rd rs1) s fun u =>
      (u.readReg rd).toNat = (s.byteAt (s.readReg rs1)).toNat + 256 * (s.byteAt (s.readReg rs1 + 1#16)).toNat :=
  (completes_of_loadInto (exec_lw rd rs1 s) heven hlow hhigh).mono fun _ ⟨hvalue, _⟩ => hvalue.trans (if_neg hrd)

/-- The two bytes SW leaves, read back by LW and LBU (20_memory.md R61 a, R69). -/
theorem completes_sw_then_load {rv rb rc rd : RegNum} {s : State} (hwf : s.mem.wf = true) (hrd : rd ≠ 0#4)
    (heven : isOdd (s.readReg rb) = false) (hlow : s.writable (s.readReg rb) = true)
    (hhigh : s.writable (s.readReg rb + 1#16) = true) (hrc : s.readReg rc = s.readReg rb + 1#16) :
    Completes (.sw rv rb) s fun t =>
      (Completes (.lw rd rb) t fun u => u.readReg rd = s.readReg rv) ∧
      (Completes (.lbu rd rb) t fun u => (u.readReg rd).toNat = (s.readReg rv).toNat % 256) ∧
      (Completes (.lbu rd rc) t fun u => (u.readReg rd).toNat = (s.readReg rv).toNat / 256) := by
  refine (completes_of_storeFrom hwf (exec_sw rv rb s) heven hlow hhigh).mono fun t ⟨hbyte0, hbyte1, _, _, hframe⟩ => ?_
  have hrb : t.readReg rb = s.readReg rb := hframe.regs rb List.not_mem_nil
  have hrc' : t.readReg rc = s.readReg rb + 1#16 := (hframe.regs rc List.not_mem_nil).trans hrc
  have hread0 := readable_of_writable (writable_of_memMap_eq hframe.memMap hlow)
  have hread1 := readable_of_writable (writable_of_memMap_eq hframe.memMap hhigh)
  rw [← hrb] at hread0 hread1 heven
  refine ⟨(completes_lw rd rb hrd heven hread0 hread1).mono fun u hu => BitVec.eq_of_toNat_eq ?_,
    (completes_lbu rd rb hrd hread0).mono fun u hu => ?_, (completes_lbu rd rc hrd ?_).mono fun u hu => ?_⟩
  · rw [hu, hrb, hbyte0, hbyte1, Nat.mod_add_div]
  · rw [hu, hrb, hbyte0]
  · rwa [hrc', ← hrb]
  · rw [hu, hrc', hbyte1]

/-- Two bytes written one after the other, read back as a word. -/
theorem completes_sb_sb_then_lw {rv rw rb rc rd : RegNum} {s : State} (hwf : s.mem.wf = true) (hrd : rd ≠ 0#4)
    (heven : isOdd (s.readReg rb) = false) (hlow : s.writable (s.readReg rb) = true)
    (hhigh : s.writable (s.readReg rb + 1#16) = true) (hrc : s.readReg rc = s.readReg rb + 1#16) :
    Completes (.sb rv rb) s fun t => Completes (.sb rw rc) t fun u => Completes (.lw rd rb) u fun x =>
      (x.readReg rd).toNat = (s.readReg rv).toNat % 256 + 256 * ((s.readReg rw).toNat % 256) := by
  obtain ⟨t, ht, hbyte0, -, -, hframe⟩ := byteStoreWritesOneByte rv rb s hwf hlow
  have hwf' : t.mem.wf = true := exec_keeps_memory_wf ht hwf
  have hreg : ∀ r, t.readReg r = s.readReg r := fun r => hframe.regs r List.not_mem_nil
  have hrc' : t.readReg rc = s.readReg rb + 1#16 := (hreg rc).trans hrc
  have hwrite : t.writable (t.readReg rc) = true := writable_of_memMap_eq hframe.memMap (hrc'.symm ▸ hhigh)
  obtain ⟨u, hu, hbyte1, -, -, hframe'⟩ := byteStoreWritesOneByte rw rc t hwf' hwrite
  have hkeep : u.byteAt (s.readReg rb) = t.byteAt (s.readReg rb) :=
    hframe'.bytes _ (by rw [hrc', List.mem_singleton]; exact (succ_ne_self _).symm)
  have hrb : u.readReg rb = s.readReg rb := (hframe'.regs rb List.not_mem_nil).trans (hreg rb)
  have hmap : u.memMap = s.memMap := hframe'.memMap.trans hframe.memMap
  have hread0 := readable_of_writable (writable_of_memMap_eq hmap hlow)
  have hread1 := readable_of_writable (writable_of_memMap_eq hmap hhigh)
  rw [← hrb] at hread0 hread1 heven
  refine ⟨t, ht, u, hu, (completes_lw rd rb hrd heven hread0 hread1).mono fun x hx => ?_⟩
  rw [hx, hrb, hkeep, hbyte0, ← hrc', hbyte1, hreg rw]

/-- Settles O23: a word stored whole, and a word stored byte by byte. -/
theorem storeThenLoadAgree : Obligations.StoreThenLoadAgree := fun _ _ _ _ _ _ hwf hrd heven hlow hhigh hrc =>
  ⟨completes_sw_then_load hwf hrd heven hlow hhigh hrc, completes_sb_sb_then_lw hwf hrd heven hlow hhigh hrc⟩

/-! ### Accesses that stop -/

section
variable {s : State} {ea : Word}

theorem loadInto_odd (rd : RegNum) (len : Word) (h : isOdd ea = true) :
    s.loadInto rd ea len = .fault (.misalignedAccess ea) := by
  rw [State.loadInto, loadWord_odd s h]

theorem loadInto_unpopulated (rd : RegNum) (len : Word) (heven : isOdd ea = false)
    (h : (s.readable ea && s.readable (ea + 1#16)) = false) : s.loadInto rd ea len = .fault (.unpopulated ea) := by
  rw [State.loadInto, loadWord_unpopulated s heven h]

theorem loadByteInto_unpopulated (rd : RegNum) (ext : Byte → Word) (h : s.readable ea = false) :
    s.loadByteInto rd ea ext = .fault (.unpopulated ea) := by
  rw [State.loadByteInto, loadByte_unpopulated s h]

theorem storeFrom_odd (v len : Word) (h : isOdd ea = true) : s.storeFrom ea v len = .fault (.misalignedAccess ea) := by
  rw [State.storeFrom, storeWord_odd s v h]

theorem storeFrom_unpopulated (v len : Word) (heven : isOdd ea = false)
    (h : (s.writable ea && s.writable (ea + 1#16)) = false) : s.storeFrom ea v len = .fault (.unpopulated ea) := by
  rw [State.storeFrom, storeWord_unpopulated s v heven h]

theorem storeByteFrom_unpopulated (b : Byte) (h : s.writable ea = false) :
    s.storeByteFrom ea b = .fault (.unpopulated ea) := by
  rw [State.storeByteFrom, storeByte_unpopulated s b h]

/-- PUSH stops as a word store at its slot does (45_stack_misc.md R250). -/
theorem execPush_odd (rs1 : RegNum) (h : isOdd s.pushSlot = true) :
    execPush rs1 s = .fault (.misalignedAccess s.pushSlot) := by
  rw [execPush, storeWord_odd s _ h]

theorem execPush_unpopulated (rs1 : RegNum) (heven : isOdd s.pushSlot = false)
    (h : (s.writable s.pushSlot && s.writable (s.pushSlot + 1#16)) = false) :
    execPush rs1 s = .fault (.unpopulated s.pushSlot) := by
  rw [execPush, storeWord_unpopulated s _ heven h]

/-- POP stops as a word load at SP does, but into SP (R251). -/
theorem execPop_odd {rd : RegNum} (hrd : rd ≠ regSP) (h : isOdd (s.readReg regSP) = true) :
    execPop rd s = .fault (.misalignedAccess (s.readReg regSP)) := by
  rw [execPop, if_neg hrd, loadWord_odd s h]

theorem execPop_unpopulated {rd : RegNum} (hrd : rd ≠ regSP) (heven : isOdd (s.readReg regSP) = false)
    (h : (s.readable (s.readReg regSP) && s.readable (s.readReg regSP + 1#16)) = false) :
    execPop rd s = .fault (.unpopulated (s.readReg regSP)) := by
  rw [execPop, if_neg hrd, loadWord_unpopulated s heven h]

end

/-- Settles O24: every word access checks alignment first, and a byte access has no such stop. -/
theorem oddWordAccessStops : Obligations.OddWordAccessStops := by
  intro r rs1 imm16 s
  refine ⟨?_, execPush_odd r, fun hodd hr => execPop_odd hr hodd, fun f => ⟨fun h => ?_, fun h => ?_, fun h => ?_⟩⟩
  · simp only [List.forall_mem_cons]
    exact ⟨loadInto_odd r _, loadInto_odd r _, loadInto_odd r _, loadInto_odd r _, loadInto_odd r _, loadInto_odd r _,
      storeFrom_odd _ _, storeFrom_odd _ _, storeFrom_odd _ _, storeFrom_odd _ _, storeFrom_odd _ _, storeFrom_odd _ _,
      loadInto_odd r _, storeFrom_odd _ _, List.forall_mem_nil _⟩
  · exact nomatch (loadByteInto_fault ((exec_lb r rs1 s).symm.trans h)).1
  · exact nomatch (loadByteInto_fault ((exec_lbu r rs1 s).symm.trans h)).1
  · exact nomatch (storeByteFrom_fault ((exec_sb r rs1 s).symm.trans h)).1

/-- Settles O25: where alignment holds, each access checks the bytes it touches. -/
theorem unpopulatedAccessStops : Obligations.UnpopulatedAccessStops := by
  intro r rs1 imm16 s
  refine ⟨(List.forall_mem_map (f := withoutLength) (l := wordLoads r rs1 imm16)).2 fun p hp heven h =>
      (exec_wordLoad r rs1 imm16 s p hp).trans (loadInto_unpopulated r _ heven h),
    (List.forall_mem_map (f := withoutLength) (l := wordStores r rs1 imm16)).2 fun p hp heven h =>
      (exec_wordStore r rs1 imm16 s p hp).trans (storeFrom_unpopulated _ _ heven h),
    fun h => ⟨(exec_lb r rs1 s).trans (loadByteInto_unpopulated r _ h),
      (exec_lbu r rs1 s).trans (loadByteInto_unpopulated r _ h)⟩,
    fun h => (exec_sb r rs1 s).trans (storeByteFrom_unpopulated _ h), execPush_unpopulated r,
    fun heven h hr => execPop_unpopulated hr heven h⟩

end Sys2Proof.Machine
end

section
/-! PROOF. Shifts and rotates (43_shift.md; 41_load_store.md R150; 48_extended.md R324 to R326): each is one of five
moves of bits, by an amount of its own. -/

namespace Sys2Proof.Machine

/-! ### Where a bit comes from -/

section
variable (v : Word) {n k : Nat}

/-- A left shift by `n`. -/
theorem shiftLeft_bit (hk : k < 16) : (v <<< n).getLsbD k = (decide (n ≤ k) && v.getLsbD (k - n)) := by
  rw [BitVec.getLsbD_shiftLeft, decide_eq_true hk, Bool.true_and, ← decide_not]
  simp only [Nat.not_lt]

/-- A logical right shift by `n`. -/
theorem ushiftRight_bit : (v >>> n).getLsbD k = v.getLsbD (k + n) := by
  rw [BitVec.getLsbD_ushiftRight, Nat.add_comm]

/-- An arithmetic right shift by `n`: past the top stands the sign. -/
theorem sshiftRight_bit (hk : k < 16) : (v.sshiftRight n).getLsbD k = v.getLsbD (min (k + n) 15) := by
  rw [BitVec.getLsbD_sshiftRight, decide_eq_false (Nat.not_le.2 hk), Bool.not_false, Bool.true_and, Nat.add_comm]
  split
  next h => rw [min_eq_left (by omega)]
  next h => rw [min_eq_right (by omega), BitVec.msb_eq_getLsbD_last]

/-- A left rotation by `n`. -/
theorem rotateLeft_bit (hn : n < 16) (hk : k < 16) :
    (v.rotateLeft n).getLsbD k = v.getLsbD ((k + (16 - n)) % 16) := by
  rw [BitVec.getLsbD_rotateLeft_of_le hn, decide_eq_true hk, Bool.true_and]
  by_cases h : k < n
  · rw [decide_eq_true h, cond_true, Nat.mod_eq_of_lt (by omega), Nat.add_comm]
  · have hmod : (k + (16 - n)) % 16 = k - n := by omega
    rw [decide_eq_false h, cond_false, hmod]

/-- A right rotation by `n`. -/
theorem rotateRight_bit (hn : n < 16) (hk : k < 16) : (v.rotateRight n).getLsbD k = v.getLsbD ((k + n) % 16) := by
  rw [BitVec.getLsbD_rotateRight, decide_eq_true hk, Bool.true_and, Nat.mod_eq_of_lt hn]
  by_cases h : k < 16 - n
  · rw [decide_eq_true h, cond_true, Nat.mod_eq_of_lt (by omega), Nat.add_comm]
  · have hmod : (k + n) % 16 = k - (16 - n) := by omega
    rw [decide_eq_false h, cond_false, hmod]

/-- SWAP exchanges the bytes, which is a rotation by 8 (43_shift.md R209). -/
theorem swap_bit (hk : k < 16) : (Word.ofBytes v.lowByte v.highByte).getLsbD k = v.getLsbD ((k + 8) % 16) := by
  simp only [Word.ofBytes, Word.lowByte, Word.highByte, BitVec.getLsbD_append, BitVec.getLsbD_extractLsb']
  by_cases h : k < 8
  · have hmod : (k + 8) % 16 = 8 + k := by omega
    simp [h, hmod]
  · have hmod : (k + 8) % 16 = k - 8 := by omega
    have hlt : k - 8 < 8 := by omega
    simp [h, hmod, hlt]

end

/-! ### The eighteen instructions -/

/-- `completes_of_finish`, its value bit by bit. -/
theorem completes_of_finish_bits {i : Instr} {s : State} {rd : RegNum} {r len : Word} {bit : Nat → Bool}
    (h : exec i s = s.finish rd r len) (hbit : ∀ {k}, k < 16 → r.getLsbD k = bit k) :
    Completes i s fun t =>
      (∀ k < 16, (t.readReg rd).getLsbD k = (decide (rd ≠ 0#4) && bit k)) ∧ t.flags = s.flags ∧ t.pc = s.pc + len ∧
        Frame s t [rd] [] [] := by
  refine (completes_of_finish h).mono fun t ⟨hrd, hrest⟩ => ⟨fun k hk => ?_, hrest⟩
  by_cases h0 : rd = 0#4
  · simp [h0]
  · simp [hrd, h0, hbit hk]

/-- Settles O26: left shifts, right shifts, arithmetic right shifts, rotations. -/
theorem shiftsMoveBits : Obligations.ShiftsMoveBits := by
  intro rd rs1 n s
  simp only [List.forall_mem_cons]
  refine ⟨completes_of_finish_bits rfl (shiftLeft_bit _), completes_of_finish_bits rfl (shiftLeft_bit _),
    completes_of_finish_bits rfl (shiftLeft_bit _), completes_of_finish_bits rfl (shiftLeft_bit _),
    completes_of_finish_bits rfl (shiftLeft_bit _),
    completes_of_finish_bits rfl fun _ => ushiftRight_bit _, completes_of_finish_bits rfl fun _ => ushiftRight_bit _,
    completes_of_finish_bits rfl fun _ => ushiftRight_bit _, completes_of_finish_bits rfl fun _ => ushiftRight_bit _,
    completes_of_finish_bits rfl (sshiftRight_bit _), completes_of_finish_bits rfl (sshiftRight_bit _),
    completes_of_finish_bits rfl (sshiftRight_bit _), completes_of_finish_bits rfl (sshiftRight_bit _),
    completes_of_finish_bits rfl (rotateLeft_bit _ (by decide)),
    completes_of_finish_bits rfl (rotateLeft_bit _ (by decide)),
    completes_of_finish_bits rfl (rotateLeft_bit _ (by decide)), completes_of_finish_bits rfl (swap_bit _),
    completes_of_finish_bits rfl (rotateRight_bit _ (by decide)), List.forall_mem_nil _⟩

/-! ### The rotations through carry -/

/-- RCL's result and new carry are the 17 bits C ++ v rotated left (43_shift.md R206). -/
theorem rotateLeft_carry (v : Word) (c : Bool) :
    BitVec.ofBool v.msb ++ (v.extractLsb' 0 15 ++ BitVec.ofBool c : Word) = (BitVec.ofBool c ++ v).rotateLeft 1 := by
  refine BitVec.eq_of_getLsbD_eq fun k hk => ?_
  simp only [BitVec.getLsbD_append, BitVec.getLsbD_rotateLeft, BitVec.getLsbD_extractLsb', BitVec.msb_eq_getLsbD_last]
  interval_cases k <;> simp

/-- RCR's result and new carry are the 17 bits v ++ C rotated right (43_shift.md R207). -/
theorem rotateRight_carry (v : Word) (c : Bool) :
    (BitVec.ofBool c ++ v.extractLsb' 1 15 : Word) ++ BitVec.ofBool (v.getLsbD 0) =
      (v ++ BitVec.ofBool c).rotateRight 1 := by
  refine BitVec.eq_of_getLsbD_eq fun k hk => ?_
  simp only [BitVec.getLsbD_append, BitVec.getLsbD_rotateRight, BitVec.getLsbD_extractLsb']
  interval_cases k <;> simp

/-- A result and a carry, the other flags unchanged (R200). -/
theorem completes_of_setCarry {i : Instr} {s : State} {rd : RegNum} {r len : Word} {c : Bool}
    (h : exec i s = (s.setCarry c).finish rd r len) :
    Completes i s fun t =>
      t.flags.c = c ∧ t.readReg rd = (if rd = 0#4 then 0#16 else r) ∧ t.flags = { s.flags with c := t.flags.c } ∧
        t.pc = s.pc + len ∧ Frame s t [rd] [] [] :=
  ⟨_, h, rfl, readReg_writeReg_same _ rd r, rfl, rfl, (frame_setCarry s c).trans (frame_writeReg_advance _ rd r len)⟩

/-- Settles O27: result and carry are the two ends of one rotation. -/
theorem rotatesThroughCarry : Obligations.RotatesThroughCarry := fun _ rs1 s =>
  ⟨(completes_of_setCarry rfl).mono fun _ ⟨hc, hrest⟩ => ⟨_, hc ▸ rotateLeft_carry (s.readReg rs1) s.flags.c, hrest⟩,
    (completes_of_setCarry rfl).mono fun _ ⟨hc, hrest⟩ => ⟨_, hc ▸ rotateRight_carry (s.readReg rs1) s.flags.c, hrest⟩⟩

end Sys2Proof.Machine
end

section
/-! PROOF. Products and quotients (44_muldiv.md R230 to R239): the upper halves complete the lower one to the product
over exact integers, and away from the corners the signed quotient and remainder are those that truncate. -/

namespace Sys2Proof.Machine

/-! ### Values discarded in R0 -/

/-- A number that is 0 when its operand is R0 may be discarded there (10_state.md R21). -/
theorem discarded_eq {α : Type} {zero x : α} {rd : RegNum} (h : rd = 0#4 → x = zero) :
    (if rd = 0#4 then zero else x) = x := by
  split
  next hrd => exact (h hrd).symm
  next => rfl

/-! ### The upper half -/

/-- The bound on a product of two signed words. -/
theorem natAbs_mul_toInt_le (p q : Word) : (p.toInt * q.toInt).natAbs ≤ 2 ^ 30 := by
  have hp := BitVec.le_toInt p
  have hp' := BitVec.toInt_lt (x := p)
  have hq := BitVec.le_toInt q
  have hq' := BitVec.toInt_lt (x := q)
  rw [Int.natAbs_mul]
  calc p.toInt.natAbs * q.toInt.natAbs
      ≤ 2 ^ 15 * 2 ^ 15 := Nat.mul_le_mul (by omega) (by omega)
    _ = 2 ^ 30 := rfl

/-- MULHU's value, with the lower half, is the unsigned product (R234). -/
theorem unsigned_product_eq (p q : Word) :
    p.toNat * q.toNat = 65536 * (upperHalf (BitVec.ofNat 32 (p.toNat * q.toNat))).toNat + (p * q).toNat := by
  have hlt : p.toNat * q.toNat < 2 ^ 16 * 2 ^ 16 := Nat.mul_lt_mul'' p.isLt q.isLt
  rw [upperHalf, BitVec.extractLsb'_toNat, BitVec.toNat_mul, BitVec.toNat_ofNat, Nat.shiftRight_eq_div_pow]
  omega

/-- MULH's value, with the lower half, is the signed product (R233). -/
theorem signed_product_eq (p q : Word) :
    p.toInt * q.toInt =
      65536 * (upperHalf (BitVec.ofInt 32 (p.toInt * q.toInt))).toInt + ((p * q).toNat : Int) := by
  have hbound := natAbs_mul_toInt_le p q
  have hlow : p * q = BitVec.ofInt 16 (p.toInt * q.toInt) := by
    rw [BitVec.ofInt_mul, BitVec.ofInt_toInt, BitVec.ofInt_toInt]
  rw [hlow]
  generalize p.toInt * q.toInt = x at hbound
  rw [upperHalf, BitVec.toInt_eq_toNat_cond, BitVec.extractLsb'_toNat, BitVec.toNat_ofInt, BitVec.toNat_ofInt,
    Nat.shiftRight_eq_div_pow]
  split <;> omega

/-- Whatever the register is called, if it is R0 it reads 0 (10_state.md R21). -/
theorem readReg_eq_zero {rd : RegNum} (s : State) (h : rd = 0#4) : s.readReg rd = 0#16 := h ▸ readReg_zero s

/-- Settles O29: for R0 both sides are 0, as its value is. -/
theorem highHalvesCompleteTheProduct : Obligations.HighHalvesCompleteTheProduct := by
  intro rd rs1 s
  refine ⟨(completes_of_finish rfl).mono fun t ⟨hrd, hrest⟩ => ⟨?_, hrest⟩,
    (completes_of_finish rfl).mono fun t ⟨hrd, hrest⟩ => ⟨?_, hrest⟩⟩
  · rw [hrd, discarded_eq fun h => ?_]
    · exact unsigned_product_eq _ _
    · rw [readReg_eq_zero s h, BitVec.toNat_zero, Nat.zero_mul]
      rfl
  · rw [hrd, discarded_eq fun h => ?_]
    · exact signed_product_eq _ _
    · rw [readReg_eq_zero s h, BitVec.toInt_zero, Int.zero_mul]
      rfl

/-! ### Unsigned division -/

/-- An unsigned division by what is not 0 (R231). -/
theorem unsignedDivide_of_ne_zero {op : DivOp} {regular : Word → Word → Word} {p q : Word} (hq : q.toNat ≠ 0) :
    unsignedDivide op regular p q = regular p q := if_neg fun h => hq (by rw [h]; rfl)

/-- Settles O30: quotient and remainder of 0 are 0, so nothing is lost in R0. -/
theorem unsignedDivisionIsEuclidean : Obligations.UnsignedDivisionIsEuclidean := by
  intro rd rs1 s hq
  refine ⟨(completes_of_finish rfl).mono fun t ⟨hrd, hrest⟩ => ⟨?_, hrest⟩,
    (completes_of_finish rfl).mono fun t ⟨hrd, hrest⟩ => ⟨?_, hrest⟩⟩
  · rw [hrd, unsignedDivide_of_ne_zero hq, discarded_eq fun h => ?_]
    · exact BitVec.toNat_udiv
    · rw [readReg_eq_zero s h, BitVec.zero_udiv]
  · rw [hrd, unsignedDivide_of_ne_zero hq, discarded_eq fun h => ?_]
    · exact BitVec.toNat_umod
    · rw [readReg_eq_zero s h, BitVec.zero_umod]

/-! ### Signed division -/

section
variable {p q : Word}

/-- Away from the two corners a signed division is the regular one (R231). -/
theorem signedDivide_regular {op : DivOp} {regular : Word → Word → Word} (hq : q.toInt ≠ 0)
    (hfits : ¬(p.toInt = -32768 ∧ q.toInt = -1)) : signedDivide op regular p q = regular p q := by
  have hzero : q ≠ 0#16 := fun h => hq (h ▸ rfl)
  have hoverflow : ¬divOverflows p q = true := by
    rw [divOverflows, Bool.and_eq_true, beq_iff_eq, beq_iff_eq]
    rintro ⟨rfl, rfl⟩
    exact hfits ⟨rfl, rfl⟩
  rw [signedDivide, if_neg hzero, if_neg hoverflow]

/-- The truncated quotient fits 16 bits but for 0x8000 / 0xFFFF. -/
theorem toInt_signedQuotient (hfits : ¬(p.toInt = -32768 ∧ q.toInt = -1)) :
    (signedQuotient p q).toInt = p.toInt.tdiv q.toInt := by
  have hne : p ≠ BitVec.intMin 16 ∨ q ≠ -1#16 := by
    by_contra h
    rw [not_or, not_ne_iff, not_ne_iff] at h
    exact hfits ⟨h.1 ▸ rfl, h.2 ▸ rfl⟩
  rw [signedQuotient, ← BitVec.toInt_sdiv_of_ne_or_ne p q hne, BitVec.ofInt_toInt]

/-- The remainder that goes with it always fits. -/
theorem toInt_signedRemainder : (signedRemainder p q).toInt = p.toInt.tmod q.toInt := by
  rw [signedRemainder, ← Int.tmod_def, ← BitVec.toInt_srem, BitVec.ofInt_toInt]

/-- A truncated remainder is 0 or has the dividend's sign. -/
theorem tmod_eq_zero_or_sign (a b : Int) : a.tmod b = 0 ∨ (a.tmod b < 0 ↔ a < 0) := by
  rcases lt_or_ge a 0 with ha | ha
  · have hneg := Int.tmod_nonneg b (a := -a) (by omega)
    rw [Int.neg_tmod] at hneg
    omega
  · have hpos := Int.tmod_nonneg b ha
    omega

end

/-- DIV or REM away from the corners, for an operation that answers 0 for 0 and so loses nothing in R0. -/
theorem completes_of_signedDivide {i : Instr} {s : State} {rd rs1 : RegNum} {op : DivOp} {regular : Word → Word → Word}
    (h : exec i s = s.finish rd (signedDivide op regular (s.readReg rd) (s.readReg rs1)) 2#16)
    (hq : (s.readReg rs1).toInt ≠ 0) (hfits : ¬((s.readReg rd).toInt = -32768 ∧ (s.readReg rs1).toInt = -1))
    (hregular : ∀ q, regular 0#16 q = 0#16) :
    Completes i s fun t =>
      t.readReg rd = regular (s.readReg rd) (s.readReg rs1) ∧ t.flags = s.flags ∧ t.pc = s.pc + 2#16 ∧
        Frame s t [rd] [] [] := by
  refine (completes_of_finish h).mono fun t ⟨hrd, hrest⟩ => ⟨hrd.trans ?_, hrest⟩
  rw [signedDivide_regular hq hfits]
  exact discarded_eq fun h0 => by rw [readReg_eq_zero s h0, hregular]

/-- Settles O31: the quotient truncates, so the remainder is the truncated one. -/
theorem signedDivisionTruncatesTowardZero : Obligations.SignedDivisionTruncatesTowardZero := by
  intro rd rs1 s hq hfits
  refine (completes_of_signedDivide rfl hq hfits fun q => ?_).mono fun t ⟨hquotient, htflags, htpc, htframe⟩ =>
    (completes_of_signedDivide rfl hq hfits fun q => ?_).mono fun u ⟨hremainder, huflags, hupc, huframe⟩ => ?_
  · simp [signedQuotient]
  · simp [signedRemainder]
  · rw [hquotient, hremainder, toInt_signedQuotient hfits, toInt_signedRemainder]
    have hlt : ((s.readReg rd).toInt.tmod (s.readReg rs1).toInt).natAbs < (s.readReg rs1).toInt.natAbs := by
      rw [Int.natAbs_tmod]
      exact Nat.mod_lt _ (Int.natAbs_pos.2 hq)
    exact ⟨(Int.tdiv_mul_add_tmod _ _).symm, hlt, tmod_eq_zero_or_sign _ _, htflags, htpc, htframe, huflags, hupc,
      huframe⟩

/-! ### The corners -/

/-- The signed overflow is looked at after the divisor of 0 (R231). -/
theorem signedDivide_overflow (op : DivOp) (regular : Word → Word → Word) :
    signedDivide op regular 0x8000#16 0xFFFF#16 = Config.divOvf op := rfl

/-- `completes_of_finish` for a register that is not R0. -/
theorem completes_of_finish_kept {i : Instr} {s : State} {rd : RegNum} {v len : Word} (hrd : rd ≠ 0#4)
    (h : exec i s = s.finish rd v len) :
    Completes i s fun t => t.readReg rd = v ∧ t.flags = s.flags ∧ t.pc = s.pc + len ∧ Frame s t [rd] [] [] :=
  (completes_of_finish h).mono fun _ ⟨hvalue, hrest⟩ => ⟨hvalue.trans (if_neg hrd), hrest⟩

/-- Settles O32: a divisor of 0 is looked at first, and 0x8000 is never what R0 reads. -/
theorem divisionCornersWriteTheParameter : Obligations.DivisionCornersWriteTheParameter := by
  intro rd rs1 s
  refine ⟨fun hzero => ?_, fun hmin hneg => ?_⟩ <;> simp only [List.forall_mem_cons]
  · have hfinish : ∀ op regular, s.finish rd (signedDivide op regular (s.readReg rd) (s.readReg rs1)) 2#16 =
        s.finish rd (Config.divZero op (s.readReg rd)) 2#16 := fun _ _ => by rw [signedDivide, if_pos hzero]
    have hfinish' : ∀ op regular, s.finish rd (unsignedDivide op regular (s.readReg rd) (s.readReg rs1)) 2#16 =
        s.finish rd (Config.divZero op (s.readReg rd)) 2#16 := fun _ _ => by rw [unsignedDivide, if_pos hzero]
    exact ⟨completes_of_finish (hfinish _ _), completes_of_finish (hfinish' _ _), completes_of_finish (hfinish _ _),
      completes_of_finish (hfinish' _ _), List.forall_mem_nil _⟩
  · have hrd : rd ≠ 0#4 := by
      rintro rfl
      exact absurd ((readReg_zero s).symm.trans hmin) (by decide)
    have hfinish : ∀ op regular, s.finish rd (signedDivide op regular (s.readReg rd) (s.readReg rs1)) 2#16 =
        s.finish rd (Config.divOvf op) 2#16 := fun _ _ => by rw [hmin, hneg, signedDivide_overflow]
    exact ⟨completes_of_finish_kept hrd (hfinish _ _), completes_of_finish_kept hrd (hfinish _ _),
      List.forall_mem_nil _⟩

/-- Settles O33: the eight meanings are the stop itself. -/
theorem operationsWithoutMeaningStop : Obligations.OperationsWithoutMeaningStop :=
  fun _ _ => ⟨rfl, rfl, rfl, rfl, rfl, rfl, rfl, rfl⟩

end Sys2Proof.Machine
end

section
/-! PROOF. The stack (45_stack_misc.md R250, R251): PUSH and POP where they meet no stop, and one after the other. -/

namespace Sys2Proof.Machine

/-! ### The slot -/

/-- An even SP has an even slot. -/
theorem isOdd_sub_two (a : Word) : isOdd (a - 2#16) = isOdd a := by
  rw [BitVec.sub_eq_add_neg]
  exact isOdd_add_even a rfl

/-- A frame may leave out a register that is back at its value, and name one that did not change. -/
theorem Frame.change_regs {s t : State} {regs regs' : List RegNum} {bytes : List Word} {ports : List PortEvent}
    (h : Frame s t regs bytes ports) (hback : ∀ r ∈ regs, r ∉ regs' → t.readReg r = s.readReg r) :
    Frame s t regs' bytes ports := by
  refine { h with regs := fun r hr => ?_ }
  by_cases hmem : r ∈ regs
  · exact hback r hmem hr
  · exact h.regs r hmem

/-! ### PUSH and POP -/

/-- PUSH at a slot that is even and RAM. -/
theorem execPush_ok (rs1 : RegNum) {s : State} (heven : isOdd s.pushSlot = false) (hlow : s.writable s.pushSlot = true)
    (hhigh : s.writable (s.pushSlot + 1#16) = true) :
    execPush rs1 s =
      .next (((s.setWord s.pushSlot (s.readReg rs1)).writeReg regSP s.pushSlot).advance 2#16) := by
  rw [execPush, storeWord_ok s _ heven hlow hhigh]

/-- POP at a word that is even and populated. -/
theorem execPop_ok {rd : RegNum} {s : State} (hrd : rd ≠ regSP) (heven : isOdd (s.readReg regSP) = false)
    (hlow : s.readable (s.readReg regSP) = true) (hhigh : s.readable (s.readReg regSP + 1#16) = true) :
    execPop rd s =
      (s.writeReg regSP (s.readReg regSP + 2#16)).finish rd (s.wordAt (s.readReg regSP)) 2#16 := by
  rw [execPop, if_neg hrd, loadWord_ok s heven hlow hhigh]

/-- Settles O34: the value is read before SP moves, and the register write leaves memory alone. -/
theorem pushStoresBelowTheStack : Obligations.PushStoresBelowTheStack := by
  intro rs1 s hwf heven hlow hhigh
  refine ⟨_, execPush_ok rs1 heven hlow hhigh, readReg_writeReg_same _ regSP _, ?_, ?_, rfl, rfl,
    (frame_setWord s s.pushSlot _).trans (frame_writeReg_advance _ regSP s.pushSlot 2#16)⟩
  · exact (congrArg BitVec.toNat (byteAt_setWord_low s.pushSlot _ hwf)).trans (lowByte_toNat _)
  · exact (congrArg BitVec.toNat (byteAt_setWord_high s.pushSlot _ hwf)).trans (highByte_toNat _)

/-- Settles O35: SP moves first, so the load into another register leaves it there. -/
theorem popLoadsAndRaisesTheStack : Obligations.PopLoadsAndRaisesTheStack := by
  intro rd s hrd heven hlow hhigh
  refine ⟨_, execPop_ok hrd heven hlow hhigh, ?_, ?_, rfl, rfl, ?_⟩
  · rw [State.advance_readReg, readReg_writeReg_same, apply_ite BitVec.toNat]
    exact congrArg (ite (rd = 0#4) 0) (ofBytes_toNat _ _)
  · rw [State.advance_readReg, readReg_writeReg_other _ _ (Ne.symm hrd)]
    exact readReg_writeReg_same s regSP _
  · refine ((frame_writeReg s regSP _).trans (frame_writeReg_advance _ rd _ 2#16)).change_regs fun r hr hr' => ?_
    rw [List.singleton_append, List.mem_pair] at hr
    exact absurd (List.mem_pair.2 hr.symm) hr'

/-- Settles O36: POP reads the two bytes PUSH wrote, and adds the 2 that PUSH took. -/
theorem pushThenPopRestores : Obligations.PushThenPopRestores := by
  intro ra rb s hwf hrb heven hlow hhigh
  have hslot : isOdd (s.readReg 2#4 - 2#16) = false := (isOdd_sub_two _).trans heven
  obtain ⟨t, ht, hsp, hbyte0, hbyte1, hflags, hpc, hframe⟩ := pushStoresBelowTheStack ra s hwf hslot hlow hhigh
  have hread0 := readable_of_writable (writable_of_memMap_eq hframe.memMap hlow)
  have hread1 := readable_of_writable (writable_of_memMap_eq hframe.memMap hhigh)
  rw [← hsp] at hslot hread0 hread1
  obtain ⟨u, hu, hvalue, hsp', hflags', hpc', hframe'⟩ := popLoadsAndRaisesTheStack rb t hrb hslot hread0 hread1
  refine ⟨t, ht, u, hu, BitVec.eq_of_toNat_eq ?_, hflags'.trans hflags, ?_, ?_⟩
  · rw [hvalue, hsp, hbyte0, hbyte1, Nat.mod_add_div, apply_ite BitVec.toNat]
    rfl
  · rw [hpc', hpc]
    exact BitVec.add_assoc ..
  · refine (hframe.trans hframe').change_regs fun r hr hr' => ?_
    have hrsp : r = 2#4 := by
      rw [List.mem_singleton] at hr'
      simpa [hr'] using hr
    rw [hrsp, hsp', hsp, BitVec.sub_add_cancel]

end Sys2Proof.Machine
end

section
/-! PROOF. EXX and the FLAGS register (45_stack_misc.md R261 to R264), whatever EXX_SET, FLAGS_LAYOUT and
I_FLAG_RELATION are. -/

namespace Sys2Proof.Machine

/-! ### EXX -/

/-- Settles O37: the exchange register by register, and its frame. -/
theorem exxExchangesTheSet : Obligations.ExxExchangesTheSet := by
  intro s
  refine ⟨s.swapAlternates.advance 2#16, rfl, fun r => ?_, fun r => ?_, ?_⟩
  · rw [State.advance_readReg, readReg_swapAlternates]
  · rw [State.advance_readAlt, readAlt_swapAlternates]
  · simp

/-- Exchanging two files twice gives each back: a place of the set is taken from the other twice, another never. -/
theorem exchange_exchange (own other : Vector Word 15) : exchange (exchange own other) (exchange other own) = own := by
  refine Vector.ext fun k hk => ?_
  simp only [exchange, Vector.getElem_ofFn, Fin.getElem_fin]
  split <;> rfl

/-- Settles O38: each file is exchanged and exchanged back. -/
theorem exxTwiceRestores : Obligations.ExxTwiceRestores := fun s =>
  ⟨_, rfl, _, rfl, exchange_exchange s.regs s.alt, exchange_exchange s.alt s.regs, BitVec.add_assoc ..⟩

/-! ### FLAGS as a byte -/

/-- A byte FLAGS is assembled in gives back each named flag at its place: the later flags have other places. -/
theorem flagsOfByte_flagsByte (l : FlagsLayout) (f : Flags) (i : Bool) (free : Byte) :
    flagsOfByte l (flagsByte l f i free) = f := by
  obtain ⟨hnz, hnc, hnv, hzc, hzv, hcv, hI⟩ := layout_distinct l
  cases hpos : l.posI with
  | none => simp [flagsOfByte, flagsByte, hpos, hnz, hnc, hnv, hzc, hzv, hcv]
  | some k =>
    obtain ⟨hkn, hkz, hkc, hkv⟩ := hI k hpos
    simp [flagsOfByte, flagsByte, hpos, hnz, hnc, hnv, hzc, hzv, hcv, hkn.symm, hkz.symm, hkc.symm, hkv.symm]

/-- And I, where the layout names it. -/
theorem bitAt_flagsByte_posI {l : FlagsLayout} {k : Fin 8} (hpos : l.posI = some k) (f : Flags) (i : Bool)
    (free : Byte) : bitAt (flagsByte l f i free) k = i := by
  simp [flagsByte, hpos]

/-- A bit of FLAGS in a register GETF wrote. -/
theorem getLsbD_zeroExtend_byte (b : Byte) (k : Fin 8) : (b.zeroExtend 16).getLsbD k = bitAt b k := by
  have hk := k.isLt
  rw [BitVec.zeroExtend, BitVec.getLsbD_setWidth, decide_eq_true (by omega), Bool.true_and]
  rfl

/-- A bit of FLAGS in a register SETF reads. -/
theorem bitAt_lowByte (w : Word) (k : Fin 8) : bitAt w.lowByte k = w.getLsbD k := by
  have hk := k.isLt
  rw [bitAt, Word.lowByte, BitVec.getLsbD_extractLsb', decide_eq_true hk, Bool.true_and, Nat.zero_add]

/-! ### GETF and SETF -/

/-- Settles O39: the register's bits are FLAGS's, read back from their places. -/
theorem getfReadsTheNamedBits : Obligations.GetfReadsTheNamedBits := by
  intro rd s
  have hflags := flagsOfByte_flagsByte Config.flagsLayout s.flags s.i s.freeBits
  refine ⟨_, rfl, fun hrd => ?_, ?_, rfl, rfl, fun r hr => readReg_writeReg_other _ _ hr, rfl, rfl, rfl, rfl, rfl, rfl,
    rfl, rfl, rfl⟩
  · rw [State.advance_readReg, readReg_writeReg_same, if_neg hrd]
    simp only [getLsbD_zeroExtend_byte]
    refine ⟨congrArg Flags.n hflags, congrArg Flags.z hflags, congrArg Flags.c hflags, congrArg Flags.v hflags, ?_⟩
    split
    next k hpos => exact bitAt_flagsByte_posI hpos ..
    next => trivial
  · rw [State.advance_readReg, readReg_writeReg_same]
    split
    · decide
    · rw [BitVec.zeroExtend, BitVec.toNat_setWidth_of_le (by decide)]
      exact BitVec.isLt _

/-- Settles O40: bits 7:0 of the register at FLAGS's places; I and IE by whether the layout has a place for I. -/
theorem setfWritesTheNamedBits : Obligations.SetfWritesTheNamedBits := by
  intro rs1 s
  refine ⟨_, rfl, bitAt_lowByte .., bitAt_lowByte .., bitAt_lowByte .., bitAt_lowByte .., ?_, rfl, rfl, rfl, rfl, rfl,
    rfl, rfl, rfl⟩
  rw [State.advance_i, State.advance_ie, State.writeFlagsByte_i, State.writeFlagsByte_ie]
  split
  next k hpos => simp [hpos, bitAt_lowByte]
  next hpos => simp [hpos]

/-- Bits that stand in the relation determine IE from I as the relation says (10_state.md R27). -/
theorem ieOf_of_related {rel : IFlagRelation} {ie i : Bool} (h : rel.iOf ie i = i) : rel.ieOf i ie = ie := by
  cases rel <;> simp_all [IFlagRelation.iOf, IFlagRelation.ieOf]

/-- Settles O41: SETF takes each flag from the bit GETF put it in. -/
theorem getfThenSetfKeepsTheFlags : Obligations.GetfThenSetfKeepsTheFlags := by
  intro ra s hra
  refine (getfReadsTheNamedBits ra s).mono fun t ⟨hbits, _, _, _, _, _, _, _, hie, hi, _⟩ => ?_
  obtain ⟨hn, hz, hc, hv, hposI⟩ := hbits hra
  refine (setfWritesTheNamedBits ra t).mono fun u ⟨hn', hz', hc', hv', hposI', _⟩ => ⟨?_, fun hrel => ?_⟩
  · rw [show u.flags = ⟨u.flags.n, u.flags.z, u.flags.c, u.flags.v⟩ from rfl, hn', hz', hc', hv', hn, hz, hc, hv]
  · cases hpos : Config.flagsLayout.posI with
    | none =>
      simp only [hpos] at hposI'
      exact ⟨hposI'.1.trans hi, hposI'.2.trans hie⟩
    | some k =>
      simp only [hpos] at hposI hposI'
      rw [hposI, hie] at hposI'
      exact ⟨hposI'.1, hposI'.2.trans (ieOf_of_related hrel)⟩

end Sys2Proof.Machine
end

section
/-! PROOF. Port accesses (46_io.md R282 to R285; 48_extended.md R322, R323): each port number, and the one access that
is made. -/

namespace Sys2Proof.Machine

/-- A 4-bit port number as the access sees it (30_encoding.md R96). -/
theorem portOfNibble_eq (q : Nibble) : portOfNibble q = BitVec.ofNat 8 q.toNat :=
  (BitVec.ofNat_toNat ..).symm

/-- An 8-bit port number is taken as it is. -/
theorem port8_eq (q : Byte) : q = BitVec.ofNat 8 q.toNat := ((BitVec.ofNat_toNat ..).trans (BitVec.setWidth_eq q)).symm

/-- A port number in a register (R96): bits 7:0. -/
theorem portInReg_eq (s : State) (r : RegNum) : s.portInReg r = BitVec.ofNat 8 ((s.readReg r).toNat % 256) := by
  refine BitVec.eq_of_toNat_eq ?_
  rw [State.portInReg, lowByte_toNat, BitVec.toNat_ofNat, Nat.mod_mod]

section
variable {i : Instr} {s : State} {p q : Byte} {len : Word}

/-- A port read at `q` (46_io.md R280). -/
theorem completes_of_portInto {rd : RegNum} (h : exec i s = s.portInto rd p len) (hp : p = q) :
    Completes i s fun t =>
      t.readReg rd = (if rd = 0#4 then 0#16 else Config.portAnswer s.portTrace q) ∧ t.flags = s.flags ∧
        t.pc = s.pc + len ∧ Frame s t [rd] [] [.read q (Config.portAnswer s.portTrace q)] := by
  subst hp
  exact ⟨_, h, readReg_writeReg_same _ rd _, rfl, rfl,
    (frame_recordPort s _).trans (frame_writeReg_advance _ rd _ len)⟩

/-- A port write at `q`. -/
theorem completes_of_portFrom {v : Word} (h : exec i s = s.portFrom p v len) (hp : p = q) :
    Completes i s fun t => t.flags = s.flags ∧ t.pc = s.pc + len ∧ Frame s t [] [] [.write q v] := by
  subst hp
  exact ⟨_, h, rfl, rfl, (frame_recordPort s _).trans (frame_advance _ len)⟩

end

/-- Settles O42: three port numbers, one kind of access. -/
theorem portInputsReadOnce : Obligations.PortInputsReadOnce := by
  intro rd rs1 port4 port8 s
  simp only [List.forall_mem_cons]
  exact ⟨completes_of_portInto rfl (portOfNibble_eq port4), completes_of_portInto rfl (portInReg_eq s rs1),
    completes_of_portInto rfl (port8_eq port8),
    List.forall_mem_nil _⟩

/-- Settles O43: the same three port numbers, written. -/
theorem portOutputsWriteOnce : Obligations.PortOutputsWriteOnce := by
  intro rv rs1 port4 port8 s
  simp only [List.forall_mem_cons]
  exact ⟨completes_of_portFrom rfl (portOfNibble_eq port4), completes_of_portFrom rfl (portInReg_eq s rs1),
    completes_of_portFrom rfl (port8_eq port8),
    List.forall_mem_nil _⟩

end Sys2Proof.Machine
end

section
/-! PROOF. The interrupt bits, traps and reset (47_system.md R292 to R299; 60_exceptions.md R346; 10_state.md R34),
whatever I_FLAG_RELATION and TRAP_MODEL are. -/

namespace Sys2Proof.Machine

/-- Settles O47: the two bits are written together, by the relation. -/
theorem interruptBitInstructions : Obligations.InterruptBitInstructions := by
  intro s
  simp only [List.forall_mem_cons]
  exact ⟨⟨⟨_, rfl, rfl, rfl, rfl⟩, ⟨_, rfl, rfl, rfl, rfl⟩, List.forall_mem_nil _⟩,
    ⟨⟨_, rfl, rfl, rfl, rfl⟩, ⟨_, rfl, rfl, rfl, rfl⟩, List.forall_mem_nil _⟩⟩

/-! ### The lists of a trap's effect -/

/-- Writes to a register file in order: the last one to each place counts. -/
theorem foldl_setReg_get (ws : List (RegNum × Word)) (regs : Vector Word 15) {q : RegNum} (hq : q ≠ 0#4) :
    (ws.foldl (fun rs w => setReg rs w.1 w.2) regs)[regIndex q] =
      ws.foldl (fun x w => if w.1 = q then w.2 else x) regs[regIndex q] := by
  induction ws generalizing regs with
  | nil => rfl
  | cons w ws ih =>
    rw [List.foldl_cons, List.foldl_cons, ih, setReg_get _ _ _ _ hq]
    simp only [eq_comm (a := q)]

/-- Writes to RAM in order, read back at a byte of RAM. -/
theorem read_foldl_pokeRam {map : List Region} {a : Word} (ha : kindIn map a = .ram) (ws : List (Word × Byte))
    {m : Memory} (hwf : m.wf = true) :
    Memory.read (ws.foldl (pokeRam map) m) a.toNat =
      ws.foldl (fun x w => if w.1 = a then w.2 else x) (Memory.read m a.toNat) := by
  induction ws generalizing m with
  | nil => rfl
  | cons w ws ih =>
    rw [List.foldl_cons, List.foldl_cons, ih (pokeRam_wf w hwf)]
    congr 1
    by_cases hwa : w.1 = a
    · rw [if_pos hwa, pokeRam, hwa, ha, if_pos (by rfl), Memory.read_write_same _ hwf]
    · rw [if_neg hwa, pokeRam]
      split
      · exact Memory.read_write_other _ _ fun h => hwa (BitVec.eq_of_toNat_eq h.symm)
      · rfl

/-- What a trap model says is what the state becomes (60_exceptions.md R346). -/
theorem applyTrap_outcome {s : State} (e : TrapEffect) (hwf : s.mem.wf = true) : TrapOutcome s e (s.applyTrap e) := by
  constructor
  case regs =>
    intro r
    by_cases hr : r = 0#4
    · rw [hr]
      rfl
    · simp only [State.readReg, if_neg hr]
      exact foldl_setReg_get e.regs s.regs hr
  case alts =>
    intro r
    by_cases hr : r = 0#4
    · rw [hr]
      rfl
    · simp only [State.readAlt, if_neg hr]
      exact foldl_setReg_get e.alts s.alt hr
  case bytes =>
    intro a
    by_cases ha : s.kindAt a = .ram
    · rw [if_pos ha]
      exact read_foldl_pokeRam ha e.bytes hwf
    · rw [if_neg ha]
      exact foldl_pokeRam_read e.bytes s.mem ha
  all_goals simp

/-- Settles O48: both are `State.applyTrap` of what TRAP_MODEL answers. -/
theorem trapsFollowTheTrapModel : Obligations.TrapsFollowTheTrapModel := fun _ _ hwf =>
  ⟨⟨_, rfl, applyTrap_outcome _ hwf⟩, ⟨_, rfl, applyTrap_outcome _ hwf⟩⟩

/-! ### Reset -/

/-- Settles O49: the fields of `State.reset`. -/
theorem resetStateValues : Obligations.ResetStateValues := by
  refine ⟨rfl, fun r => ?_, fun r => ?_, rfl, rfl, rfl, fun a => ⟨rfl, rfl⟩, rfl⟩
  · simp [State.readReg, State.reset, Config.resetReg]
  · simp [State.readAlt, State.reset, Config.resetAlt]

/-- Settles O50: no byte is listed, and I was taken from the relation. -/
theorem resetHasTheInvariant : Obligations.ResetHasTheInvariant := ⟨reset_mem_wf, iOf_iOf _ _ _⟩

end Sys2Proof.Machine
end
